-- ==== Sys2Proof/Word.lean ====
section
/-! DEFINITION. The words of the machine (00_scope.md R12): a `u8` is a `Byte`, a `u16` is a `Word`. -/

namespace Sys2Proof

/-- A `u8`. -/
abbrev Byte := BitVec 8

/-- A `u16`: an address, or the program counter. -/
abbrev Word := BitVec 16

/-- `{h, l}` of R12: the `u16` with high byte `h` and low byte `l`. -/
def mkWord (h l : Byte) : Word := (h ++ l : BitVec 16)

/-- `w[15:8]`. -/
def hiByte (w : Word) : Byte := w.extractLsb' 8 8

/-- `w[7:0]`. -/
def loByte (w : Word) : Byte := w.extractLsb' 0 8

/-- `zext_16(v)` of R12. -/
def zext16 (v : Byte) : Word := v.setWidth 16

end Sys2Proof
end

