-- ==== Sys2Proof/Syntax.lean ====
section
/-! DEFINITION. The instructions. One constructor for each of the 57 mnemonics of spec/opcode_table.json; the table's 256
rows are these constructors with each operand form (DESIGN CHOICE, log entry 1). A mnemonic's operand type has exactly the
modes that 30_encoding.md R86 gives it, so the pairs of 40_dispatch_and_operand_decoder.md R118 cannot be written. -/

namespace Sys2Proof

/-- The thirteen mode tags (R103). -/
inductive Mode where
  | imp | acc | imm | zp | zpx | zpy | rel | abs | abx | aby | ind | izx | izy
  deriving DecidableEq, Repr

/-- An operand of one of the nine modes that give an effective address, with its operand bytes (R84). -/
inductive AddrOperand where
  | zp (d : Byte)
  | zpx (d : Byte)
  | zpy (d : Byte)
  | abs (w : Word)
  | abx (w : Word)
  | aby (w : Word)
  | ind (w : Word)
  | izx (d : Byte)
  | izy (d : Byte)
  deriving DecidableEq, Repr

/-- The operand of a reading instruction: an immediate byte or a memory byte (R117). -/
inductive Source where
  | imm (v : Byte)
  | mem (o : AddrOperand)
  deriving DecidableEq, Repr

/-- What a shift or rotate works on: A or a memory byte (R200). -/
inductive Target where
  | acc
  | mem (o : AddrOperand)
  deriving DecidableEq, Repr

/-- LDA, ADC, SBC, CMP, AND, ORA, EOR. -/
inductive AluOperand where
  | imm (v : Byte) | zp (d : Byte) | zpx (d : Byte) | abs (w : Word) | abx (w : Word) | aby (w : Word)
  | izx (d : Byte) | izy (d : Byte)
  deriving DecidableEq, Repr

/-- LDX. -/
inductive LdxOperand where
  | imm (v : Byte) | zp (d : Byte) | zpy (d : Byte) | abs (w : Word) | aby (w : Word)
  deriving DecidableEq, Repr

/-- LDY. -/
inductive LdyOperand where
  | imm (v : Byte) | zp (d : Byte) | zpx (d : Byte) | abs (w : Word) | abx (w : Word)
  deriving DecidableEq, Repr

/-- STA. -/
inductive StaOperand where
  | zp (d : Byte) | zpx (d : Byte) | abs (w : Word) | abx (w : Word) | aby (w : Word) | izx (d : Byte) | izy (d : Byte)
  deriving DecidableEq, Repr

/-- STX. -/
inductive StxOperand where
  | zp (d : Byte) | zpy (d : Byte) | abs (w : Word)
  deriving DecidableEq, Repr

/-- STY. -/
inductive StyOperand where
  | zp (d : Byte) | zpx (d : Byte) | abs (w : Word)
  deriving DecidableEq, Repr

/-- CPX, CPY. -/
inductive CpOperand where
  | imm (v : Byte) | zp (d : Byte) | abs (w : Word)
  deriving DecidableEq, Repr

/-- BIT. -/
inductive BitOperand where
  | zp (d : Byte) | abs (w : Word)
  deriving DecidableEq, Repr

/-- ASL, LSR, ROL, ROR. -/
inductive ShiftOperand where
  | acc | zp (d : Byte) | zpx (d : Byte) | abs (w : Word) | abx (w : Word)
  deriving DecidableEq, Repr

/-- INC, DEC. -/
inductive IncOperand where
  | zp (d : Byte) | zpx (d : Byte) | abs (w : Word) | abx (w : Word)
  deriving DecidableEq, Repr

/-- JMP. -/
inductive JmpOperand where
  | abs (w : Word) | ind (w : Word)
  deriving DecidableEq, Repr

/-- The instructions, in the order of 30_encoding.md R86. -/
inductive Instr where
  | lda (o : AluOperand)
  | ldx (o : LdxOperand)
  | ldy (o : LdyOperand)
  | sta (o : StaOperand)
  | stx (o : StxOperand)
  | sty (o : StyOperand)
  | tax
  | tay
  | txa
  | tya
  | tsx
  | txs
  | pha
  | pla
  | php
  | plp
  | adc (o : AluOperand)
  | sbc (o : AluOperand)
  | cmp (o : AluOperand)
  | cpx (o : CpOperand)
  | cpy (o : CpOperand)
  | and (o : AluOperand)
  | ora (o : AluOperand)
  | eor (o : AluOperand)
  | bit (o : BitOperand)
  | asl (o : ShiftOperand)
  | lsr (o : ShiftOperand)
  | rol (o : ShiftOperand)
  | ror (o : ShiftOperand)
  | inc (o : IncOperand)
  | dec (o : IncOperand)
  | inx
  | dex
  | iny
  | dey
  | bcc (d : Byte)
  | bcs (d : Byte)
  | bne (d : Byte)
  | beq (d : Byte)
  | bpl (d : Byte)
  | bmi (d : Byte)
  | bvc (d : Byte)
  | bvs (d : Byte)
  | jmp (o : JmpOperand)
  | jsr (w : Word)
  | rts
  | brk
  | rti
  | clc
  | sec
  | cld
  | sed
  | cli
  | sei
  | clv
  | nop
  /-- An undefined opcode (R259), with its byte. -/
  | undef (b : Byte)
  deriving DecidableEq, Repr

end Sys2Proof
end

