-- ==== Sys2Proof/Decode.lean ====
section
/-! DEFINITION. The instruction decoder of 30_encoding.md: the opcode table, decoding of any bytes, and the encoder. -/

namespace Sys2Proof

/-- An entry of the opcode table: the instruction as a function of the operand bytes of its format (R82). -/
inductive Row where
  | f1 (i : Instr)
  | f2 (mk : Byte → Instr)
  | f3 (mk : Word → Instr)

/-- R87: the opcode table as a grid, one list for each high nibble, indexed by the low nibble; `none` is an unassigned byte. -/
def opcodeGrid : Nat → List (Option Row)
  | 0 =>
    [some (.f1 .brk), some (.f2 fun d => .ora (.izx d)), none, none, none, some (.f2 fun d => .ora (.zp d)),
     some (.f2 fun d => .asl (.zp d)), none, some (.f1 .php), some (.f2 fun d => .ora (.imm d)),
     some (.f1 (.asl .acc)), none, none, some (.f3 fun w => .ora (.abs w)), some (.f3 fun w => .asl (.abs w)), none]
  | 1 =>
    [some (.f2 fun d => .bpl d), some (.f2 fun d => .ora (.izy d)), none, none, none,
     some (.f2 fun d => .ora (.zpx d)), some (.f2 fun d => .asl (.zpx d)), none, some (.f1 .clc),
     some (.f3 fun w => .ora (.aby w)), none, none, none, some (.f3 fun w => .ora (.abx w)),
     some (.f3 fun w => .asl (.abx w)), none]
  | 2 =>
    [some (.f3 fun w => .jsr w), some (.f2 fun d => .and (.izx d)), none, none, some (.f2 fun d => .bit (.zp d)),
     some (.f2 fun d => .and (.zp d)), some (.f2 fun d => .rol (.zp d)), none, some (.f1 .plp),
     some (.f2 fun d => .and (.imm d)), some (.f1 (.rol .acc)), none, some (.f3 fun w => .bit (.abs w)),
     some (.f3 fun w => .and (.abs w)), some (.f3 fun w => .rol (.abs w)), none]
  | 3 =>
    [some (.f2 fun d => .bmi d), some (.f2 fun d => .and (.izy d)), none, none, none,
     some (.f2 fun d => .and (.zpx d)), some (.f2 fun d => .rol (.zpx d)), none, some (.f1 .sec),
     some (.f3 fun w => .and (.aby w)), none, none, none, some (.f3 fun w => .and (.abx w)),
     some (.f3 fun w => .rol (.abx w)), none]
  | 4 =>
    [some (.f1 .rti), some (.f2 fun d => .eor (.izx d)), none, none, none, some (.f2 fun d => .eor (.zp d)),
     some (.f2 fun d => .lsr (.zp d)), none, some (.f1 .pha), some (.f2 fun d => .eor (.imm d)),
     some (.f1 (.lsr .acc)), none, some (.f3 fun w => .jmp (.abs w)), some (.f3 fun w => .eor (.abs w)),
     some (.f3 fun w => .lsr (.abs w)), none]
  | 5 =>
    [some (.f2 fun d => .bvc d), some (.f2 fun d => .eor (.izy d)), none, none, none,
     some (.f2 fun d => .eor (.zpx d)), some (.f2 fun d => .lsr (.zpx d)), none, some (.f1 .cli),
     some (.f3 fun w => .eor (.aby w)), none, none, none, some (.f3 fun w => .eor (.abx w)),
     some (.f3 fun w => .lsr (.abx w)), none]
  | 6 =>
    [some (.f1 .rts), some (.f2 fun d => .adc (.izx d)), none, none, none, some (.f2 fun d => .adc (.zp d)),
     some (.f2 fun d => .ror (.zp d)), none, some (.f1 .pla), some (.f2 fun d => .adc (.imm d)),
     some (.f1 (.ror .acc)), none, some (.f3 fun w => .jmp (.ind w)), some (.f3 fun w => .adc (.abs w)),
     some (.f3 fun w => .ror (.abs w)), none]
  | 7 =>
    [some (.f2 fun d => .bvs d), some (.f2 fun d => .adc (.izy d)), none, none, none,
     some (.f2 fun d => .adc (.zpx d)), some (.f2 fun d => .ror (.zpx d)), none, some (.f1 .sei),
     some (.f3 fun w => .adc (.aby w)), none, none, none, some (.f3 fun w => .adc (.abx w)),
     some (.f3 fun w => .ror (.abx w)), none]
  | 8 =>
    [none, some (.f2 fun d => .sta (.izx d)), none, none, some (.f2 fun d => .sty (.zp d)),
     some (.f2 fun d => .sta (.zp d)), some (.f2 fun d => .stx (.zp d)), none, some (.f1 .dey), none,
     some (.f1 .txa), none, some (.f3 fun w => .sty (.abs w)), some (.f3 fun w => .sta (.abs w)),
     some (.f3 fun w => .stx (.abs w)), none]
  | 9 =>
    [some (.f2 fun d => .bcc d), some (.f2 fun d => .sta (.izy d)), none, none, some (.f2 fun d => .sty (.zpx d)),
     some (.f2 fun d => .sta (.zpx d)), some (.f2 fun d => .stx (.zpy d)), none, some (.f1 .tya),
     some (.f3 fun w => .sta (.aby w)), some (.f1 .txs), none, none, some (.f3 fun w => .sta (.abx w)), none, none]
  | 10 =>
    [some (.f2 fun d => .ldy (.imm d)), some (.f2 fun d => .lda (.izx d)), some (.f2 fun d => .ldx (.imm d)), none,
     some (.f2 fun d => .ldy (.zp d)), some (.f2 fun d => .lda (.zp d)), some (.f2 fun d => .ldx (.zp d)), none,
     some (.f1 .tay), some (.f2 fun d => .lda (.imm d)), some (.f1 .tax), none, some (.f3 fun w => .ldy (.abs w)),
     some (.f3 fun w => .lda (.abs w)), some (.f3 fun w => .ldx (.abs w)), none]
  | 11 =>
    [some (.f2 fun d => .bcs d), some (.f2 fun d => .lda (.izy d)), none, none, some (.f2 fun d => .ldy (.zpx d)),
     some (.f2 fun d => .lda (.zpx d)), some (.f2 fun d => .ldx (.zpy d)), none, some (.f1 .clv),
     some (.f3 fun w => .lda (.aby w)), some (.f1 .tsx), none, some (.f3 fun w => .ldy (.abx w)),
     some (.f3 fun w => .lda (.abx w)), some (.f3 fun w => .ldx (.aby w)), none]
  | 12 =>
    [some (.f2 fun d => .cpy (.imm d)), some (.f2 fun d => .cmp (.izx d)), none, none,
     some (.f2 fun d => .cpy (.zp d)), some (.f2 fun d => .cmp (.zp d)), some (.f2 fun d => .dec (.zp d)), none,
     some (.f1 .iny), some (.f2 fun d => .cmp (.imm d)), some (.f1 .dex), none, some (.f3 fun w => .cpy (.abs w)),
     some (.f3 fun w => .cmp (.abs w)), some (.f3 fun w => .dec (.abs w)), none]
  | 13 =>
    [some (.f2 fun d => .bne d), some (.f2 fun d => .cmp (.izy d)), none, none, none,
     some (.f2 fun d => .cmp (.zpx d)), some (.f2 fun d => .dec (.zpx d)), none, some (.f1 .cld),
     some (.f3 fun w => .cmp (.aby w)), none, none, none, some (.f3 fun w => .cmp (.abx w)),
     some (.f3 fun w => .dec (.abx w)), none]
  | 14 =>
    [some (.f2 fun d => .cpx (.imm d)), some (.f2 fun d => .sbc (.izx d)), none, none,
     some (.f2 fun d => .cpx (.zp d)), some (.f2 fun d => .sbc (.zp d)), some (.f2 fun d => .inc (.zp d)), none,
     some (.f1 .inx), some (.f2 fun d => .sbc (.imm d)), some (.f1 .nop), none, some (.f3 fun w => .cpx (.abs w)),
     some (.f3 fun w => .sbc (.abs w)), some (.f3 fun w => .inc (.abs w)), none]
  | 15 =>
    [some (.f2 fun d => .beq d), some (.f2 fun d => .sbc (.izy d)), none, none, none,
     some (.f2 fun d => .sbc (.zpx d)), some (.f2 fun d => .inc (.zpx d)), none, some (.f1 .sed),
     some (.f3 fun w => .sbc (.aby w)), none, none, none, some (.f3 fun w => .sbc (.abx w)),
     some (.f3 fun w => .inc (.abx w)), none]
  | _ => []

/-- `OpcodeTable` of R80 and 40_dispatch_and_operand_decoder.md R101: total, indexed by all eight bits. An unassigned byte
is the undefined instruction of mode IMP (R88). -/
def opcodeTable (op : Byte) : Row :=
  ((opcodeGrid (op.toNat / 16)).getD (op.toNat % 16) none).getD (.f1 (.undef op))

/-- Why bytes do not decode: every byte is an opcode (R101), so they can only be too few. -/
inductive DecodeError where
  /-- No byte at all. -/
  | noOpcode
  /-- The opcode's operand bytes are not all there. -/
  | operandMissing (opcode : Byte)
  deriving DecidableEq, Repr

/-- The instruction at the head of the bytes, with the bytes after it; in F3 the low byte comes first (R82). -/
def decode : List Byte → Except DecodeError (Instr × List Byte)
  | [] => .error .noOpcode
  | op :: rest =>
    match opcodeTable op, rest with
    | .f1 i, rest => .ok (i, rest)
    | .f2 mk, d :: rest => .ok (mk d, rest)
    | .f3 mk, lo :: hi :: rest => .ok (mk (mkWord hi lo), rest)
    | .f2 _, [] => .error (.operandMissing op)
    | .f3 _, [] => .error (.operandMissing op)
    | .f3 _, [_] => .error (.operandMissing op)

/-- The bytes of an instruction, from the rows of R86. -/
def encode : Instr → List Byte
  | .lda (.imm d) => [0xA9, d]
  | .lda (.zp d) => [0xA5, d]
  | .lda (.zpx d) => [0xB5, d]
  | .lda (.abs w) => [0xAD, loByte w, hiByte w]
  | .lda (.abx w) => [0xBD, loByte w, hiByte w]
  | .lda (.aby w) => [0xB9, loByte w, hiByte w]
  | .lda (.izx d) => [0xA1, d]
  | .lda (.izy d) => [0xB1, d]
  | .ldx (.imm d) => [0xA2, d]
  | .ldx (.zp d) => [0xA6, d]
  | .ldx (.zpy d) => [0xB6, d]
  | .ldx (.abs w) => [0xAE, loByte w, hiByte w]
  | .ldx (.aby w) => [0xBE, loByte w, hiByte w]
  | .ldy (.imm d) => [0xA0, d]
  | .ldy (.zp d) => [0xA4, d]
  | .ldy (.zpx d) => [0xB4, d]
  | .ldy (.abs w) => [0xAC, loByte w, hiByte w]
  | .ldy (.abx w) => [0xBC, loByte w, hiByte w]
  | .sta (.zp d) => [0x85, d]
  | .sta (.zpx d) => [0x95, d]
  | .sta (.abs w) => [0x8D, loByte w, hiByte w]
  | .sta (.abx w) => [0x9D, loByte w, hiByte w]
  | .sta (.aby w) => [0x99, loByte w, hiByte w]
  | .sta (.izx d) => [0x81, d]
  | .sta (.izy d) => [0x91, d]
  | .stx (.zp d) => [0x86, d]
  | .stx (.zpy d) => [0x96, d]
  | .stx (.abs w) => [0x8E, loByte w, hiByte w]
  | .sty (.zp d) => [0x84, d]
  | .sty (.zpx d) => [0x94, d]
  | .sty (.abs w) => [0x8C, loByte w, hiByte w]
  | .tax => [0xAA]
  | .tay => [0xA8]
  | .txa => [0x8A]
  | .tya => [0x98]
  | .tsx => [0xBA]
  | .txs => [0x9A]
  | .pha => [0x48]
  | .pla => [0x68]
  | .php => [0x08]
  | .plp => [0x28]
  | .adc (.imm d) => [0x69, d]
  | .adc (.zp d) => [0x65, d]
  | .adc (.zpx d) => [0x75, d]
  | .adc (.abs w) => [0x6D, loByte w, hiByte w]
  | .adc (.abx w) => [0x7D, loByte w, hiByte w]
  | .adc (.aby w) => [0x79, loByte w, hiByte w]
  | .adc (.izx d) => [0x61, d]
  | .adc (.izy d) => [0x71, d]
  | .sbc (.imm d) => [0xE9, d]
  | .sbc (.zp d) => [0xE5, d]
  | .sbc (.zpx d) => [0xF5, d]
  | .sbc (.abs w) => [0xED, loByte w, hiByte w]
  | .sbc (.abx w) => [0xFD, loByte w, hiByte w]
  | .sbc (.aby w) => [0xF9, loByte w, hiByte w]
  | .sbc (.izx d) => [0xE1, d]
  | .sbc (.izy d) => [0xF1, d]
  | .cmp (.imm d) => [0xC9, d]
  | .cmp (.zp d) => [0xC5, d]
  | .cmp (.zpx d) => [0xD5, d]
  | .cmp (.abs w) => [0xCD, loByte w, hiByte w]
  | .cmp (.abx w) => [0xDD, loByte w, hiByte w]
  | .cmp (.aby w) => [0xD9, loByte w, hiByte w]
  | .cmp (.izx d) => [0xC1, d]
  | .cmp (.izy d) => [0xD1, d]
  | .cpx (.imm d) => [0xE0, d]
  | .cpx (.zp d) => [0xE4, d]
  | .cpx (.abs w) => [0xEC, loByte w, hiByte w]
  | .cpy (.imm d) => [0xC0, d]
  | .cpy (.zp d) => [0xC4, d]
  | .cpy (.abs w) => [0xCC, loByte w, hiByte w]
  | .and (.imm d) => [0x29, d]
  | .and (.zp d) => [0x25, d]
  | .and (.zpx d) => [0x35, d]
  | .and (.abs w) => [0x2D, loByte w, hiByte w]
  | .and (.abx w) => [0x3D, loByte w, hiByte w]
  | .and (.aby w) => [0x39, loByte w, hiByte w]
  | .and (.izx d) => [0x21, d]
  | .and (.izy d) => [0x31, d]
  | .ora (.imm d) => [0x09, d]
  | .ora (.zp d) => [0x05, d]
  | .ora (.zpx d) => [0x15, d]
  | .ora (.abs w) => [0x0D, loByte w, hiByte w]
  | .ora (.abx w) => [0x1D, loByte w, hiByte w]
  | .ora (.aby w) => [0x19, loByte w, hiByte w]
  | .ora (.izx d) => [0x01, d]
  | .ora (.izy d) => [0x11, d]
  | .eor (.imm d) => [0x49, d]
  | .eor (.zp d) => [0x45, d]
  | .eor (.zpx d) => [0x55, d]
  | .eor (.abs w) => [0x4D, loByte w, hiByte w]
  | .eor (.abx w) => [0x5D, loByte w, hiByte w]
  | .eor (.aby w) => [0x59, loByte w, hiByte w]
  | .eor (.izx d) => [0x41, d]
  | .eor (.izy d) => [0x51, d]
  | .bit (.zp d) => [0x24, d]
  | .bit (.abs w) => [0x2C, loByte w, hiByte w]
  | .asl .acc => [0x0A]
  | .asl (.zp d) => [0x06, d]
  | .asl (.zpx d) => [0x16, d]
  | .asl (.abs w) => [0x0E, loByte w, hiByte w]
  | .asl (.abx w) => [0x1E, loByte w, hiByte w]
  | .lsr .acc => [0x4A]
  | .lsr (.zp d) => [0x46, d]
  | .lsr (.zpx d) => [0x56, d]
  | .lsr (.abs w) => [0x4E, loByte w, hiByte w]
  | .lsr (.abx w) => [0x5E, loByte w, hiByte w]
  | .rol .acc => [0x2A]
  | .rol (.zp d) => [0x26, d]
  | .rol (.zpx d) => [0x36, d]
  | .rol (.abs w) => [0x2E, loByte w, hiByte w]
  | .rol (.abx w) => [0x3E, loByte w, hiByte w]
  | .ror .acc => [0x6A]
  | .ror (.zp d) => [0x66, d]
  | .ror (.zpx d) => [0x76, d]
  | .ror (.abs w) => [0x6E, loByte w, hiByte w]
  | .ror (.abx w) => [0x7E, loByte w, hiByte w]
  | .inc (.zp d) => [0xE6, d]
  | .inc (.zpx d) => [0xF6, d]
  | .inc (.abs w) => [0xEE, loByte w, hiByte w]
  | .inc (.abx w) => [0xFE, loByte w, hiByte w]
  | .dec (.zp d) => [0xC6, d]
  | .dec (.zpx d) => [0xD6, d]
  | .dec (.abs w) => [0xCE, loByte w, hiByte w]
  | .dec (.abx w) => [0xDE, loByte w, hiByte w]
  | .inx => [0xE8]
  | .dex => [0xCA]
  | .iny => [0xC8]
  | .dey => [0x88]
  | .bcc d => [0x90, d]
  | .bcs d => [0xB0, d]
  | .bne d => [0xD0, d]
  | .beq d => [0xF0, d]
  | .bpl d => [0x10, d]
  | .bmi d => [0x30, d]
  | .bvc d => [0x50, d]
  | .bvs d => [0x70, d]
  | .jmp (.abs w) => [0x4C, loByte w, hiByte w]
  | .jmp (.ind w) => [0x6C, loByte w, hiByte w]
  | .jsr w => [0x20, loByte w, hiByte w]
  | .rts => [0x60]
  | .brk => [0x00]
  | .rti => [0x40]
  | .clc => [0x18]
  | .sec => [0x38]
  | .cld => [0xD8]
  | .sed => [0xF8]
  | .cli => [0x58]
  | .sei => [0x78]
  | .clv => [0xB8]
  | .nop => [0xEA]
  | .undef b => [b]

/-- Number of operand bytes of a mode (R81). -/
def Mode.operandBytes : Mode → Nat
  | .imp | .acc => 0
  | .imm | .zp | .zpx | .zpy | .rel | .izx | .izy => 1
  | .abs | .abx | .aby | .ind => 2

def AddrOperand.mode : AddrOperand → Mode
  | .zp _ => .zp | .zpx _ => .zpx | .zpy _ => .zpy | .abs _ => .abs | .abx _ => .abx | .aby _ => .aby
  | .ind _ => .ind | .izx _ => .izx | .izy _ => .izy

def Source.mode : Source → Mode
  | .imm _ => .imm
  | .mem o => o.mode

def Target.mode : Target → Mode
  | .acc => .acc
  | .mem o => o.mode

def AluOperand.source : AluOperand → Source
  | .imm v => .imm v
  | .zp d => .mem (.zp d)
  | .zpx d => .mem (.zpx d)
  | .abs w => .mem (.abs w)
  | .abx w => .mem (.abx w)
  | .aby w => .mem (.aby w)
  | .izx d => .mem (.izx d)
  | .izy d => .mem (.izy d)

def LdxOperand.source : LdxOperand → Source
  | .imm v => .imm v
  | .zp d => .mem (.zp d)
  | .zpy d => .mem (.zpy d)
  | .abs w => .mem (.abs w)
  | .aby w => .mem (.aby w)

def LdyOperand.source : LdyOperand → Source
  | .imm v => .imm v
  | .zp d => .mem (.zp d)
  | .zpx d => .mem (.zpx d)
  | .abs w => .mem (.abs w)
  | .abx w => .mem (.abx w)

def CpOperand.source : CpOperand → Source
  | .imm v => .imm v
  | .zp d => .mem (.zp d)
  | .abs w => .mem (.abs w)

def StaOperand.addr : StaOperand → AddrOperand
  | .zp d => .zp d
  | .zpx d => .zpx d
  | .abs w => .abs w
  | .abx w => .abx w
  | .aby w => .aby w
  | .izx d => .izx d
  | .izy d => .izy d

def StxOperand.addr : StxOperand → AddrOperand
  | .zp d => .zp d
  | .zpy d => .zpy d
  | .abs w => .abs w

def StyOperand.addr : StyOperand → AddrOperand
  | .zp d => .zp d
  | .zpx d => .zpx d
  | .abs w => .abs w

def BitOperand.addr : BitOperand → AddrOperand
  | .zp d => .zp d
  | .abs w => .abs w

def ShiftOperand.target : ShiftOperand → Target
  | .acc => .acc
  | .zp d => .mem (.zp d)
  | .zpx d => .mem (.zpx d)
  | .abs w => .mem (.abs w)
  | .abx w => .mem (.abx w)

def IncOperand.addr : IncOperand → AddrOperand
  | .zp d => .zp d
  | .zpx d => .zpx d
  | .abs w => .abs w
  | .abx w => .abx w

def JmpOperand.addr : JmpOperand → AddrOperand
  | .abs w => .abs w
  | .ind w => .ind w

/-- The mode tag of an instruction's opcode (R81, R86, R88). -/
def Instr.mode : Instr → Mode
  | .lda o | .adc o | .sbc o | .cmp o | .and o | .ora o | .eor o => o.source.mode
  | .ldx o => o.source.mode
  | .ldy o => o.source.mode
  | .cpx o | .cpy o => o.source.mode
  | .sta o => o.addr.mode
  | .stx o => o.addr.mode
  | .sty o => o.addr.mode
  | .bit o => o.addr.mode
  | .asl o | .lsr o | .rol o | .ror o => o.target.mode
  | .inc o | .dec o => o.addr.mode
  | .jmp o => o.addr.mode
  | .jsr _ => .abs
  | .bcc _ | .bcs _ | .bne _ | .beq _ | .bpl _ | .bmi _ | .bvc _ | .bvs _ => .rel
  | .tax | .tay | .txa | .tya | .tsx | .txs | .pha | .pla | .php | .plp | .inx | .dex | .iny | .dey | .rts | .brk | .rti
  | .clc | .sec | .cld | .sed | .cli | .sei | .clv | .nop | .undef _ => .imp

/-- The instruction's length in bytes (R80, R81). -/
def Instr.length (i : Instr) : Nat := 1 + i.mode.operandBytes

/-- The three bytes of a number whose bit 0 is the least significant bit of the first byte, of which the low `nbits` bits
are given and every bit above is 0. -/
def tableBytes (nbits w : Nat) : List Byte :=
  [BitVec.ofNat 8 (w % 2 ^ nbits), BitVec.ofNat 8 (w % 2 ^ nbits / 256), BitVec.ofNat 8 (w % 2 ^ nbits / 65536)]

/-- The instruction the decoder reads from an instruction whose bits are `w`, numbered as spec/opcode_table.json numbers
them. -/
def decodeTableWord (nbits w : Nat) : Option Instr :=
  match decode (tableBytes nbits w) with
  | .ok (i, _) => some i
  | .error _ => none

end Sys2Proof
end

