-- ==== Sys2Proof/Config.lean ====
section
/-! DEFINITION. The parameters that 00_scope.md R9 leaves open, each fixed for a run. The one thing without a body is the pair
(read, write) of a substituted bus, which is outside the spec (20_memory.md R53). There is no other free value:
70_reset_and_hazards.md R313 lists all that has no definite result, and both items end in a fault or a refusal. -/

namespace Sys2Proof

/-- What a bus answers to `read(a)` (20_memory.md R50, R53): the byte, its own state afterwards, and whether it signals a
failure (R70). -/
structure ReadReply where
  value : Byte
  device : List Nat
  failed : Bool
  deriving DecidableEq, Repr, Inhabited

/-- What a bus answers to `write(a, v)`: its own state afterwards, and whether it signals a failure. -/
structure WriteReply where
  device : List Nat
  failed : Bool
  deriving DecidableEq, Repr, Inhabited

/-- `read` of the substituted bus, of the bus's own state and the address: any function, so a read may have a side effect and
its value need not be what was written last (R53). It has no body: nothing can be proved of it that does not hold of every
bus (log entry 21). -/
opaque Config.busRead : List Nat → Word → ReadReply

/-- `write` of the substituted bus, of the bus's own state, the address and the byte (R53; log entry 21). -/
opaque Config.busWrite : List Nat → Word → Byte → WriteReply

/-- The named parameters of R9 with the defaults it gives. DESIGN CHOICE (log entry 5): they are a field of State, so a
statement about every state is about every value of them. -/
structure Config where
  /-- `STRICT_ILLEGAL`: does an undefined opcode report `IllegalOpcode` on `status` (R259). -/
  strictIllegal : Bool
  /-- `INT_ENTRY_CYCLES`: cycles charged for an interrupt entry (70_reset_and_hazards.md R318). -/
  intEntryCycles : Nat
  /-- `BUS`: the address ranges, both ends included, that the substituted pair (read, write) serves. The default memory of
  20_memory.md R52 serves the rest: all of it by default, none of it with the one range $0000 to $FFFF. DESIGN CHOICE (log
  entry 21): the parameter is the pair for each address, since a platform substitutes devices for a part of memory. -/
  substituted : List (Word × Word)
  /-- `BUS`: addresses at which the bus adapter signals a failure, whatever serves them (20_memory.md R70). The default memory
  has none. DESIGN CHOICE (log entry 6): the spec does not say when a bus fails. -/
  failingAddrs : List Word
  deriving DecidableEq, Repr

/-- The parameters at the defaults of R9. -/
def Config.default : Config :=
  { strictIllegal := false, intEntryCycles := 7, substituted := [], failingAddrs := [] }

/-- Does the substituted pair serve this address. -/
def Config.substitutes (cfg : Config) (a : Word) : Bool :=
  cfg.substituted.any (fun r => decide (r.1.toNat ≤ a.toNat) && decide (a.toNat ≤ r.2.toNat))

end Sys2Proof
end

