-- ==== Sys2Proof/Machine/Memory.lean ====
section
/-! DEFINITION. The default memory of 20_memory.md R52: a total map from the 65 536 addresses to bytes, held as the list of
the cells that differ from what an unlisted address reads as. -/

namespace Sys2Proof.Machine

open Sys2Proof

/-- Cells with strictly rising addresses, none equal to `unlistedByte`. -/
abbrev Memory := List Host.Cell

/-- What an address reads as that the memory does not list. DESIGN CHOICE, unsafe (log entry 2): the initial contents are
whatever the environment provides (R52); $00 is the value of the examples of 00_scope.md R17. -/
def unlistedByte : Byte := 0x00

/-- `mem[a]`. -/
def Memory.read : Memory → Nat → Byte
  | [], _ => unlistedByte
  | (b, v) :: rest, a => if b = a then v else Memory.read rest a

/-- The memory without a cell at `a`. -/
def Memory.erase : Memory → Nat → Memory
  | [], _ => []
  | (b, v) :: rest, a => if b = a then Memory.erase rest a else (b, v) :: Memory.erase rest a

/-- The memory with a cell put in before the first higher address. -/
def Memory.insert : Memory → Nat → Byte → Memory
  | [], a, v => [(a, v)]
  | (b, w) :: rest, a, v => if a < b then (a, v) :: (b, w) :: rest else (b, w) :: Memory.insert rest a v

/-- `mem[a]` set to `v`, no other byte changed (R52); the canonical form is kept. -/
def Memory.write (m : Memory) (a : Nat) (v : Byte) : Memory :=
  if v = unlistedByte then Memory.erase m a else Memory.insert (Memory.erase m a) a v

/-- Every address is at least `lo` and a `u16`, addresses rise, no cell holds `unlistedByte`. -/
def Memory.wfFrom : Nat → Memory → Bool
  | _, [] => true
  | lo, (b, v) :: rest => decide (lo ≤ b) && decide (b < 65536) && decide (v ≠ unlistedByte) && Memory.wfFrom (b + 1) rest

/-- The canonical form. -/
def Memory.wf (m : Memory) : Bool := Memory.wfFrom 0 m

end Sys2Proof.Machine
end

