-- ==== Sys2Proof/Machine/State.lean ====
section
/-! DEFINITION. The state of 10_state.md R20, with the memory of the environment (20_memory.md R52) and the block's inputs
and outputs (00_scope.md R10) as plain data. -/

namespace Sys2Proof.Machine

open Sys2Proof

/-- The six stored flags (R30 to R37). B and bit 5 of the packed form are not storage (R35, 90_conflicts.md C1; log
entry 3). -/
structure Flags where
  n : Bool
  v : Bool
  d : Bool
  i : Bool
  z : Bool
  c : Bool
  deriving DecidableEq, Repr

/-- The `status` output of a step that ends in a next state (60_exceptions.md R270); `BusFault` is the outcome
`Fault.busFault`. -/
inductive Status where
  | ok
  | illegalOpcode (b : Byte)
  | haltRequested
  deriving DecidableEq, Repr

/-- One transaction of the ports `mem_read` and `mem_write` (00_scope.md R10). -/
inductive BusAccess where
  | read (a : Word) (v : Byte)
  | write (a : Word) (v : Byte)
  /-- An access for which a substituted bus signals a failure (20_memory.md R70). -/
  | failed (a : Word)
  deriving DecidableEq, Repr

/-- The address of a transaction. -/
def BusAccess.addr : BusAccess → Word
  | .read a _ => a
  | .write a _ => a
  | .failed a => a

/-- The machine. -/
structure State where
  /-- The program counter (R25). -/
  pc : Word
  /-- The stack pointer (R23). -/
  sp : Byte
  /-- The accumulator (R21). -/
  a : Byte
  /-- The index register X (R22). -/
  x : Byte
  /-- The index register Y (R22). -/
  y : Byte
  /-- The processor status, unpacked (R30). -/
  p : Flags
  /-- The latch of `irq_req` (R40). -/
  irqPending : Bool
  /-- The latch of `nmi_req` (R41). -/
  nmiPending : Bool
  /-- The memory behind the bus (20_memory.md R52). -/
  mem : Memory
  /-- The state of a substituted bus, as that bus encodes it (20_memory.md R53; log entry 21). -/
  device : List Nat
  /-- The level of the input `halt_req` (60_exceptions.md R284), held as the environment drives it (log entry 7). -/
  haltReq : Bool
  /-- Has a reset happened: before the first one no register holds a value (R42; log entry 9). -/
  started : Bool
  /-- The parameters of 00_scope.md R9 (log entry 5). -/
  cfg : Config
  /-- The output `cycles` of the last step (70_reset_and_hazards.md R318; log entry 8). -/
  cycles : Nat
  /-- The output `status` of the last step (60_exceptions.md R270; log entry 8). -/
  status : Status
  /-- The bus transactions of the last event, in order (20_memory.md R51; log entry 8). -/
  bus : List BusAccess
  deriving DecidableEq, Repr

/-- Why a step stops with nothing concluded about the state. -/
inductive Fault where
  /-- Raised by `step` and by the reset event: the bus adapter failed at this address (20_memory.md R70, 60_exceptions.md
  R283). Safe: nothing can be concluded of the state afterwards. Never with the default memory. -/
  | busFault (addr : Word)
  deriving DecidableEq, Repr

/-- Why there is no meaning. -/
inductive Refusal where
  /-- Raised by a refused arm of `exec`, of which there is none. Safe. -/
  | notModelled (mnemonic : String)
  /-- Raised by `step` and by the events `irq_req` and `nmi_req` before the first reset: they have no meaning there
  (10_state.md R42). Safe. -/
  | beforeFirstReset
  deriving DecidableEq, Repr

/-- The machine right after reset, over the memory that lists nothing (70_reset_and_hazards.md R300, R301). C, Z, V and N
are 0 by the spec's decision D3, the latches by D13. DESIGN CHOICE: `halt_req` 0 (log entry 7), `cycles` and `status` as
before any step (log entry 8), the parameters at their defaults (log entry 5), no state of a substituted bus (log entry 21). -/
def State.reset : State :=
  let lo := Memory.read [] 0xFFFC
  let hi := Memory.read [] 0xFFFD
  { pc := mkWord hi lo
    sp := 0xFD
    a := 0x00
    x := 0x00
    y := 0x00
    p := { n := false, v := false, d := false, i := true, z := false, c := false }
    irqPending := false
    nmiPending := false
    mem := []
    device := []
    haltReq := false
    started := true
    cfg := Config.default
    cycles := 0
    status := .ok
    bus := [.read 0xFFFC lo, .read 0xFFFD hi] }

end Sys2Proof.Machine
end

