-- ==== Sys2Proof/Machine/Flags.lean ====
section
/-! DEFINITION. The flag-derivation primitives of 41_flag_and_stack_primitives.md, and the packed status byte. -/

namespace Sys2Proof.Machine

open Sys2Proof

def State.setFlagN (s : State) (b : Bool) : State := { s with p := { s.p with n := b } }
def State.setFlagV (s : State) (b : Bool) : State := { s with p := { s.p with v := b } }
def State.setFlagD (s : State) (b : Bool) : State := { s with p := { s.p with d := b } }
def State.setFlagI (s : State) (b : Bool) : State := { s with p := { s.p with i := b } }
def State.setFlagZ (s : State) (b : Bool) : State := { s with p := { s.p with z := b } }
def State.setFlagC (s : State) (b : Bool) : State := { s with p := { s.p with c := b } }

/-- `SetNZ(v)` (R130). -/
def State.setNZ (s : State) (v : Byte) : State :=
  (s.setFlagZ (v == 0x00)).setFlagN (v.getLsbD 7)

/-- The 9-bit sum of R131: two `u8` and the carry-in, 0 to 511. -/
def sum9 (a m : Byte) (cin : Bool) : Nat := a.toNat + m.toNat + cin.toNat

/-- The 8-bit result of ADC (R133), and of SBC with the operand complemented (R134). -/
def sumResult (a m : Byte) (cin : Bool) : Byte := BitVec.ofNat 8 (sum9 a m cin)

/-- C on addition: bit 8 of the sum (R131). -/
def sumCarry (a m : Byte) (cin : Bool) : Bool := decide (sum9 a m cin > 0xFF)

/-- V on ADC (R133): `((a ^ r) & (m ^ r) & 0x80) != 0`. -/
def sumOverflow (a m : Byte) (cin : Bool) : Bool :=
  let r := sumResult a m cin
  ((a ^^^ r) &&& (m ^^^ r) &&& 0x80) != 0x00

/-- C, V, A and then N, Z of an addition to A (R135). -/
def State.addToA (s : State) (m : Byte) : State :=
  let r := sumResult s.a m s.p.c
  let t := (s.setFlagC (sumCarry s.a m s.p.c)).setFlagV (sumOverflow s.a m s.p.c)
  ({ t with a := r }).setNZ r

/-- C, Z and N of a compare of a register with an operand (R132, R182): C from the unsigned comparison, N from bit 7 of the
8-bit difference; nothing else is written. -/
def State.compare (s : State) (reg m : Byte) : State :=
  ((s.setFlagC (decide (m.toNat ≤ reg.toNat))).setFlagZ (reg == m)).setFlagN ((reg - m).getLsbD 7)

/-- `PackP(b)` (R138): `{N, V, 1, b, D, I, Z, C}`. -/
def packP (p : Flags) (b : Bool) : Byte :=
  BitVec.ofNat 8 (p.n.toNat * 128 + p.v.toNat * 64 + 32 + b.toNat * 16 + p.d.toNat * 8 + p.i.toNat * 4 + p.z.toNat * 2
    + p.c.toNat)

/-- `UnpackP(v)` (R139): bits 5 and 4 are ignored. -/
def unpackP (v : Byte) : Flags :=
  { n := v.getLsbD 7, v := v.getLsbD 6, d := v.getLsbD 3, i := v.getLsbD 2, z := v.getLsbD 1, c := v.getLsbD 0 }

end Sys2Proof.Machine
end

