-- ==== Sys2Proof/Machine/Ops.lean ====
section
/-! DEFINITION. The named operations over registers, memory and stack: bus primitives (20_memory.md R50), the instruction
byte fetch (40_dispatch_and_operand_decoder.md R102), the stack primitives (41_flag_and_stack_primitives.md R136 to R141),
the entry to an exception (60_exceptions.md R277), the return from one (48_jumps_interrupt_control.md R244), and the reset
sequence (70_reset_and_hazards.md R300). -/

namespace Sys2Proof.Machine

open Sys2Proof

def State.setA (s : State) (v : Byte) : State := { s with a := v }
def State.setX (s : State) (v : Byte) : State := { s with x := v }
def State.setY (s : State) (v : Byte) : State := { s with y := v }
def State.setSP (s : State) (v : Byte) : State := { s with sp := v }
def State.setP (s : State) (p : Flags) : State := { s with p := p }
/-- `PC <- t`, modulo 65536 by its width (R26). -/
def State.setPC (s : State) (t : Word) : State := { s with pc := t }
def State.setIrqPending (s : State) (b : Bool) : State := { s with irqPending := b }
def State.setNmiPending (s : State) (b : Bool) : State := { s with nmiPending := b }
def State.setHaltReq (s : State) (b : Bool) : State := { s with haltReq := b }
/-- The state of a substituted bus, as the environment leaves it (log entry 12). -/
def State.setDevice (s : State) (d : List Nat) : State := { s with device := d }
def State.setStatus (s : State) (st : Status) : State := { s with status := st }

/-- Cycles added to the `cycles` output of the current step (70_reset_and_hazards.md R318). -/
def State.addCycles (s : State) (n : Nat) : State := { s with cycles := s.cycles + n }

/-- The byte at an address of the default memory of 20_memory.md R52; no transaction. -/
def State.byteAt (s : State) (a : Word) : Byte := Memory.read s.mem a.toNat

/-- The default memory of 20_memory.md R52 serves every address; an access may still fail at the adapter. -/
def State.OnRam (s : State) : Prop := s.cfg.substituted = []

/-- `read` of the parameter `BUS` (00_scope.md R9): the default memory (20_memory.md R52), or the substituted pair (R53). -/
def State.busRead (s : State) (a : Word) : ReadReply :=
  if s.cfg.substitutes a then Config.busRead s.device a
  else { value := s.byteAt a, device := s.device, failed := false }

/-- `write` of the parameter `BUS`, but for the default memory's contents. -/
def State.busWrite (s : State) (a : Word) (v : Byte) : WriteReply :=
  if s.cfg.substitutes a then Config.busWrite s.device a v else { device := s.device, failed := false }

/-- The default memory after `write(a, v)`: changed where it serves the address (R52), as before where it does not. -/
def State.memAfterWrite (s : State) (a : Word) (v : Byte) : Memory :=
  if s.cfg.substitutes a then s.mem else Memory.write s.mem a.toNat v

/-- The transaction of a read. -/
def readAccess (a : Word) (r : ReadReply) : BusAccess := if r.failed then .failed a else .read a r.value

/-- The transaction of a write. -/
def writeAccess (a : Word) (v : Byte) (r : WriteReply) : BusAccess := if r.failed then .failed a else .write a v

/-- `MemRead(a, 1)` (20_memory.md R50): the byte the bus answers, and the state with the transaction recorded. -/
def memRead (s : State) (a : Word) : Byte × State :=
  let r := s.busRead a
  (r.value, { s with device := r.device, bus := s.bus ++ [readAccess a r] })

/-- `MemWrite(a, 1, v)` (20_memory.md R50). -/
def memWrite (s : State) (a : Word) (v : Byte) : State :=
  let r := s.busWrite a v
  { s with mem := s.memAfterWrite a v, device := r.device, bus := s.bus ++ [writeAccess a v r] }

/-- `Fetch8()` (40_dispatch_and_operand_decoder.md R102). -/
def fetch8 (s : State) : Byte × State :=
  let r := memRead s s.pc
  (r.1, r.2.setPC (r.2.pc + 1))

/-- A 16-bit quantity read as two bytes, the one at the first address low and first (20_memory.md R54, R55). -/
def readWord (s : State) (loAddr hiAddr : Word) : Word × State :=
  let lo := memRead s loAddr
  let hi := memRead lo.2 hiAddr
  (mkWord hi.1 lo.1, hi.2)

/-- The stack address `{$01, SP}` (10_state.md R23). -/
def stackAddr (sp : Byte) : Word := mkWord 0x01 sp

/-- `Push8(v)` (R136): the write first, then the decrement, modulo 256. -/
def push8 (s : State) (v : Byte) : State :=
  let t := memWrite s (stackAddr s.sp) v
  t.setSP (t.sp - 1)

/-- `Pull8()` (R137): the increment first, modulo 256, then the read. -/
def pull8 (s : State) : Byte × State :=
  let t := s.setSP (s.sp + 1)
  memRead t (stackAddr t.sp)

/-- `Push16(w)` (R140): high byte first. -/
def push16 (s : State) (w : Word) : State := push8 (push8 s (hiByte w)) (loByte w)

/-- `Pull16()` (R141): low byte first. -/
def pull16 (s : State) : Word × State :=
  let lo := pull8 s
  let hi := pull8 lo.2
  (mkWord hi.1 lo.1, hi.2)

/-- The vectors (20_memory.md R61). -/
def nmiVector : Word := 0xFFFA
def resetVector : Word := 0xFFFC
def irqVector : Word := 0xFFFE

/-- `InterruptEntry(vec, b)` (60_exceptions.md R277): the one way an exception is taken. PC high, PC low and P go on the
stack, I is set after P was packed, and PC is read from the vector, low byte first. -/
def interruptEntry (s : State) (vec : Word) (b : Bool) : State :=
  let s1 := push16 s s.pc
  let s2 := push8 s1 (packP s1.p b)
  let s3 := s2.setFlagI true
  let r := readWord s3 vec (vec + 1)
  r.2.setPC r.1

/-- The return from an exception (48_jumps_interrupt_control.md R244, 60_exceptions.md R281): P, then PC low and PC high, and
no increment. -/
def returnFromInterrupt (s : State) : State :=
  let f := pull8 s
  let s1 := f.2.setP (unpackP f.1)
  let r := pull16 s1
  r.2.setPC r.1

/-- The reset sequence (70_reset_and_hazards.md R300): two vector reads, no write. The default memory, the level of `halt_req`,
the parameters, and the outputs `cycles` and `status`, which belong to `step`, are as before (R301, R302). -/
def resetSequence (s : State) : State :=
  let s0 := { s with bus := [] }
  let r := readWord s0 resetVector (resetVector + 1)
  { r.2 with
    pc := r.1
    sp := 0xFD
    a := 0x00
    x := 0x00
    y := 0x00
    p := { n := false, v := false, d := false, i := true, z := false, c := false }
    irqPending := false
    nmiPending := false
    started := true }

/-- Bytes put into memory from outside the machine, from address `a` upward modulo 65536; no transaction of the core. -/
def State.loadBytes (s : State) (a : Word) : List Byte → State
  | [] => s
  | v :: rest => State.loadBytes { s with mem := Memory.write s.mem a.toNat v } (a + 1) rest

/-- The state in which the very next step fetches at PC from the default memory: reset has happened, `halt_req` is 0, no
interrupt would be taken first, and the bus is the default memory (log entry 10). -/
def State.readyToFetch (s : State) : State :=
  { s with
    started := true, haltReq := false, nmiPending := false, irqPending := s.irqPending && s.p.i
    cfg := { s.cfg with substituted := [], failingAddrs := [] } }

end Sys2Proof.Machine
end

