-- ==== Sys2Proof/Machine/Operands.lean ====
section
/-! DEFINITION. The operand decoder of 40_dispatch_and_operand_decoder.md, for operand bytes already fetched: the effective
address of the nine address modes (R107 to R116), and the operand byte of a reading instruction (R117). -/

namespace Sys2Proof.Machine

open Sys2Proof

/-- `Addr(a, crossed)` of R103, with the state after the decoder's pointer reads. -/
structure Located where
  addr : Word
  crossed : Bool
  state : State
  deriving DecidableEq, Repr

/-- The operand byte of `LoadOperand` (R117), the decoder's `crossed` bit, and the state after the reads. -/
structure Loaded where
  value : Byte
  crossed : Bool
  state : State
  deriving DecidableEq, Repr

/-- The address of a zero-page byte. -/
def zeroPage (d : Byte) : Word := zext16 d

/-- `(w + i) mod 65536`, the index unsigned (R112, R113, R116). -/
def indexed (w : Word) (i : Byte) : Word := w + zext16 i

/-- Does the index addition carry out of the low byte (R112, R113, R116). -/
def indexCrosses (w : Word) (i : Byte) : Bool := decide ((loByte w).toNat + i.toNat > 0xFF)

/-- The address of the high byte of a JMP indirect pointer: the next address of the same page (R114). -/
def samePageNext (ptr : Word) : Word := (ptr &&& 0xFF00) ||| ((ptr + 1) &&& 0x00FF)

/-- A pointer read from the zero page, both bytes of it (R115, R116). -/
def readZeroPagePointer (s : State) (p : Byte) : Word × State := readWord s (zeroPage p) (zeroPage (p + 1))

/-- `DecodeOperand` for the nine address modes (R107 to R109, R111 to R116). -/
def locate (s : State) : AddrOperand → Located
  | .zp d => { addr := zeroPage d, crossed := false, state := s }
  | .zpx d => { addr := zeroPage (d + s.x), crossed := false, state := s }
  | .zpy d => { addr := zeroPage (d + s.y), crossed := false, state := s }
  | .abs w => { addr := w, crossed := false, state := s }
  | .abx w => { addr := indexed w s.x, crossed := indexCrosses w s.x, state := s }
  | .aby w => { addr := indexed w s.y, crossed := indexCrosses w s.y, state := s }
  | .ind w =>
    let r := readWord s w (samePageNext w)
    { addr := r.1, crossed := false, state := r.2 }
  | .izx d =>
    let r := readZeroPagePointer s (d + s.x)
    { addr := r.1, crossed := false, state := r.2 }
  | .izy d =>
    let r := readZeroPagePointer s d
    { addr := indexed r.1 s.y, crossed := indexCrosses r.1 s.y, state := r.2 }

/-- `LoadOperand(DecodeOperand(mode))` (R106, R117). -/
def load (s : State) : Source → Loaded
  | .imm v => { value := v, crossed := false, state := s }
  | .mem o =>
    let e := locate s o
    let r := memRead e.state e.addr
    { value := r.1, crossed := e.crossed, state := r.2 }

end Sys2Proof.Machine
end

