-- ==== Sys2Proof/Machine/Arithmetic.lean ====
section
/-! DEFINITION. Arithmetic, compare and bitwise instructions (43_arithmetic_compare.md, 44_bitwise.md). -/

namespace Sys2Proof.Machine

open Sys2Proof

/-- R180. D is not read (41_flag_and_stack_primitives.md R146). -/
def execAdc (o : AluOperand) (s : State) : Host.Outcome State Fault Refusal :=
  let m := load s o.source
  .next ((m.state.addToA m.value).addCycles m.crossed.toNat)

/-- R181: the addition of the operand's one's complement. D is not read (R146). -/
def execSbc (o : AluOperand) (s : State) : Host.Outcome State Fault Refusal :=
  let m := load s o.source
  .next ((m.state.addToA (~~~ m.value)).addCycles m.crossed.toNat)

/-- R182. -/
def execCmp (o : AluOperand) (s : State) : Host.Outcome State Fault Refusal :=
  let m := load s o.source
  .next ((m.state.compare s.a m.value).addCycles m.crossed.toNat)

/-- R183. -/
def execCpx (o : CpOperand) (s : State) : Host.Outcome State Fault Refusal :=
  let m := load s o.source
  .next (m.state.compare s.x m.value)

/-- R184. -/
def execCpy (o : CpOperand) (s : State) : Host.Outcome State Fault Refusal :=
  let m := load s o.source
  .next (m.state.compare s.y m.value)

/-- `A op M` into A with N and Z (R190 to R192). -/
def logicToA (op : Byte → Byte → Byte) (o : Source) (s : State) : State :=
  let m := load s o
  let r := op s.a m.value
  ((m.state.setA r).setNZ r).addCycles m.crossed.toNat

/-- R190. -/
def execAnd (o : AluOperand) (s : State) : Host.Outcome State Fault Refusal :=
  .next (logicToA (fun a m => a &&& m) o.source s)

/-- R191. -/
def execOra (o : AluOperand) (s : State) : Host.Outcome State Fault Refusal :=
  .next (logicToA (fun a m => a ||| m) o.source s)

/-- R192. -/
def execEor (o : AluOperand) (s : State) : Host.Outcome State Fault Refusal :=
  .next (logicToA (fun a m => a ^^^ m) o.source s)

/-- R193: Z from `A & M`, N and V from M itself. -/
def execBit (o : BitOperand) (s : State) : Host.Outcome State Fault Refusal :=
  let m := load s (.mem o.addr)
  .next (((m.state.setFlagZ ((s.a &&& m.value) == 0x00)).setFlagN (m.value.getLsbD 7)).setFlagV (m.value.getLsbD 6))

end Sys2Proof.Machine
end

