-- ==== Sys2Proof/Machine/Control.lean ====
section
/-! DEFINITION. Branches (47_branches.md), jumps and subroutines, BRK and RTI (48_jumps_interrupt_control.md). -/

namespace Sys2Proof.Machine

open Sys2Proof

/-- `(PC + sext_8(d)) mod 65536` (R220). -/
def branchTarget (pc : Word) (d : Byte) : Word := pc + d.signExtend 16

/-- The penalty of a taken branch: 1, and 1 more to another page than that of the instruction after the branch (R220). -/
def branchPenalty (pc target : Word) : Nat := if hiByte target = hiByte pc then 1 else 2

/-- The shared operation of the branches (R220): PC is past the operand byte. -/
def branchIf (taken : Bool) (d : Byte) (s : State) : State :=
  if taken then
    let target := branchTarget s.pc d
    (s.setPC target).addCycles (branchPenalty s.pc target)
  else s

/-- R221. -/
def execBcc (d : Byte) (s : State) : Host.Outcome State Fault Refusal := .next (branchIf (!s.p.c) d s)

/-- R222. -/
def execBcs (d : Byte) (s : State) : Host.Outcome State Fault Refusal := .next (branchIf s.p.c d s)

/-- R223. -/
def execBne (d : Byte) (s : State) : Host.Outcome State Fault Refusal := .next (branchIf (!s.p.z) d s)

/-- R224. -/
def execBeq (d : Byte) (s : State) : Host.Outcome State Fault Refusal := .next (branchIf s.p.z d s)

/-- R225. -/
def execBpl (d : Byte) (s : State) : Host.Outcome State Fault Refusal := .next (branchIf (!s.p.n) d s)

/-- R226. -/
def execBmi (d : Byte) (s : State) : Host.Outcome State Fault Refusal := .next (branchIf s.p.n d s)

/-- R227. -/
def execBvc (d : Byte) (s : State) : Host.Outcome State Fault Refusal := .next (branchIf (!s.p.v) d s)

/-- R228. -/
def execBvs (d : Byte) (s : State) : Host.Outcome State Fault Refusal := .next (branchIf s.p.v d s)

/-- R240. -/
def execJmp (o : JmpOperand) (s : State) : Host.Outcome State Fault Refusal :=
  let e := locate s o.addr
  .next (e.state.setPC e.addr)

/-- R241: the address of the instruction's last byte is pushed. -/
def execJsr (w : Word) (s : State) : Host.Outcome State Fault Refusal := .next ((push16 s (s.pc - 1)).setPC w)

/-- R242. -/
def execRts (s : State) : Host.Outcome State Fault Refusal :=
  let r := pull16 s
  .next (r.2.setPC (r.1 + 1))

/-- R243: the padding byte is skipped and not read; the entry pushes bit 4 of P as 1. -/
def execBrk (s : State) : Host.Outcome State Fault Refusal :=
  .next (interruptEntry (s.setPC (s.pc + 1)) irqVector true)

/-- R244. -/
def execRti (s : State) : Host.Outcome State Fault Refusal := .next (returnFromInterrupt s)

end Sys2Proof.Machine
end

