-- ==== Sys2Proof/Machine/FlagOps.lean ====
section
/-! DEFINITION. Flag setters, NOP and the undefined opcodes (49_flags_nop_undefined.md). -/

namespace Sys2Proof.Machine

open Sys2Proof

/-- R250. -/
def execClc (s : State) : Host.Outcome State Fault Refusal := .next (s.setFlagC false)

/-- R251. -/
def execSec (s : State) : Host.Outcome State Fault Refusal := .next (s.setFlagC true)

/-- R252. -/
def execCld (s : State) : Host.Outcome State Fault Refusal := .next (s.setFlagD false)

/-- R253. -/
def execSed (s : State) : Host.Outcome State Fault Refusal := .next (s.setFlagD true)

/-- R254. -/
def execCli (s : State) : Host.Outcome State Fault Refusal := .next (s.setFlagI false)

/-- R255. -/
def execSei (s : State) : Host.Outcome State Fault Refusal := .next (s.setFlagI true)

/-- R256. -/
def execClv (s : State) : Host.Outcome State Fault Refusal := .next (s.setFlagV false)

/-- R258. -/
def execNop (s : State) : Host.Outcome State Fault Refusal := .next s

/-- R259: nothing but the report on `status` under STRICT_ILLEGAL, which is not a trap. -/
def execUndef (b : Byte) (s : State) : Host.Outcome State Fault Refusal :=
  .next (if s.cfg.strictIllegal then s.setStatus (.illegalOpcode b) else s)

end Sys2Proof.Machine
end

