-- ==== Sys2Proof/Machine/LoadStore.lean ====
section
/-! DEFINITION. Load, store, transfer and stack instructions (42_load_store_transfer_stack.md). A meaning runs after the
fetch: PC is past the instruction's bytes (10_state.md R25), and what it adds to `cycles` is its penalty. -/

namespace Sys2Proof.Machine

open Sys2Proof

/-- R150. -/
def execLda (o : AluOperand) (s : State) : Host.Outcome State Fault Refusal :=
  let m := load s o.source
  .next (((m.state.setA m.value).setNZ m.value).addCycles m.crossed.toNat)

/-- R151. -/
def execLdx (o : LdxOperand) (s : State) : Host.Outcome State Fault Refusal :=
  let m := load s o.source
  .next (((m.state.setX m.value).setNZ m.value).addCycles m.crossed.toNat)

/-- R152. -/
def execLdy (o : LdyOperand) (s : State) : Host.Outcome State Fault Refusal :=
  let m := load s o.source
  .next (((m.state.setY m.value).setNZ m.value).addCycles m.crossed.toNat)

/-- A register stored to an effective address; no flag, no penalty. -/
def storeByte (s : State) (o : AddrOperand) (v : Byte) : State :=
  let e := locate s o
  memWrite e.state e.addr v

/-- R153. -/
def execSta (o : StaOperand) (s : State) : Host.Outcome State Fault Refusal := .next (storeByte s o.addr s.a)

/-- R154. -/
def execStx (o : StxOperand) (s : State) : Host.Outcome State Fault Refusal := .next (storeByte s o.addr s.x)

/-- R155. -/
def execSty (o : StyOperand) (s : State) : Host.Outcome State Fault Refusal := .next (storeByte s o.addr s.y)

/-- R156. -/
def execTax (s : State) : Host.Outcome State Fault Refusal := .next ((s.setX s.a).setNZ s.a)

/-- R157. -/
def execTay (s : State) : Host.Outcome State Fault Refusal := .next ((s.setY s.a).setNZ s.a)

/-- R158. -/
def execTxa (s : State) : Host.Outcome State Fault Refusal := .next ((s.setA s.x).setNZ s.x)

/-- R159. -/
def execTya (s : State) : Host.Outcome State Fault Refusal := .next ((s.setA s.y).setNZ s.y)

/-- R160. -/
def execTsx (s : State) : Host.Outcome State Fault Refusal := .next ((s.setX s.sp).setNZ s.sp)

/-- R161: no flag. -/
def execTxs (s : State) : Host.Outcome State Fault Refusal := .next (s.setSP s.x)

/-- R162. -/
def execPha (s : State) : Host.Outcome State Fault Refusal := .next (push8 s s.a)

/-- R163. -/
def execPla (s : State) : Host.Outcome State Fault Refusal :=
  let r := pull8 s
  .next ((r.2.setA r.1).setNZ r.1)

/-- R164: bit 4 of the pushed byte is 1. -/
def execPhp (s : State) : Host.Outcome State Fault Refusal := .next (push8 s (packP s.p true))

/-- R165. -/
def execPlp (s : State) : Host.Outcome State Fault Refusal :=
  let r := pull8 s
  .next (r.2.setP (unpackP r.1))

end Sys2Proof.Machine
end

