-- ==== Sys2Proof/Machine/ShiftInc.lean ====
section
/-! DEFINITION. Shift and rotate instructions (45_shift_rotate.md), increments and decrements (46_inc_dec.md). -/

namespace Sys2Proof.Machine

open Sys2Proof

/-- `f` of R201. -/
def aslByte (v : Byte) (_cin : Bool) : Byte × Bool := (v <<< 1, v.getLsbD 7)

/-- `f` of R202. -/
def lsrByte (v : Byte) (_cin : Bool) : Byte × Bool := (v >>> 1, v.getLsbD 0)

/-- `f` of R203. -/
def rolByte (v : Byte) (cin : Bool) : Byte × Bool := ((v <<< 1) ||| BitVec.ofNat 8 cin.toNat, v.getLsbD 7)

/-- `f` of R204. -/
def rorByte (v : Byte) (cin : Bool) : Byte × Bool := ((v >>> 1) ||| BitVec.ofNat 8 (cin.toNat * 128), v.getLsbD 0)

/-- The shared shape of R200: in a memory mode one read, then one write of the same address. -/
def shiftTarget (f : Byte → Bool → Byte × Bool) (t : Target) (s : State) : State :=
  match t with
  | .acc =>
    let r := f s.a s.p.c
    ((s.setFlagC r.2).setA r.1).setNZ r.1
  | .mem o =>
    let e := locate s o
    let m := memRead e.state e.addr
    let r := f m.1 s.p.c
    (memWrite (m.2.setFlagC r.2) e.addr r.1).setNZ r.1

/-- R201. -/
def execAsl (o : ShiftOperand) (s : State) : Host.Outcome State Fault Refusal := .next (shiftTarget aslByte o.target s)

/-- R202. -/
def execLsr (o : ShiftOperand) (s : State) : Host.Outcome State Fault Refusal := .next (shiftTarget lsrByte o.target s)

/-- R203. -/
def execRol (o : ShiftOperand) (s : State) : Host.Outcome State Fault Refusal := .next (shiftTarget rolByte o.target s)

/-- R204. -/
def execRor (o : ShiftOperand) (s : State) : Host.Outcome State Fault Refusal := .next (shiftTarget rorByte o.target s)

/-- A memory byte read, changed, written back, with N and Z (R210, R211). -/
def modifyByte (f : Byte → Byte) (o : AddrOperand) (s : State) : State :=
  let e := locate s o
  let m := memRead e.state e.addr
  let r := f m.1
  (memWrite m.2 e.addr r).setNZ r

/-- R210. -/
def execInc (o : IncOperand) (s : State) : Host.Outcome State Fault Refusal := .next (modifyByte (fun v => v + 1) o.addr s)

/-- R211. -/
def execDec (o : IncOperand) (s : State) : Host.Outcome State Fault Refusal := .next (modifyByte (fun v => v - 1) o.addr s)

/-- R212. -/
def execInx (s : State) : Host.Outcome State Fault Refusal := .next ((s.setX (s.x + 1)).setNZ (s.x + 1))

/-- R213. -/
def execDex (s : State) : Host.Outcome State Fault Refusal := .next ((s.setX (s.x - 1)).setNZ (s.x - 1))

/-- R214. -/
def execIny (s : State) : Host.Outcome State Fault Refusal := .next ((s.setY (s.y + 1)).setNZ (s.y + 1))

/-- R215. -/
def execDey (s : State) : Host.Outcome State Fault Refusal := .next ((s.setY (s.y - 1)).setNZ (s.y - 1))

end Sys2Proof.Machine
end

