-- ==== Sys2Proof/Machine/Timing.lean ====
section
/-! DEFINITION. The base cycle count of each opcode, from the numbers in parentheses of 30_encoding.md R86. -/

namespace Sys2Proof.Machine

open Sys2Proof

/-- LDA, ADC, SBC, CMP, AND, ORA, EOR. -/
def aluCycles : AluOperand → Nat
  | .imm _ => 2
  | .zp _ => 3
  | .zpx _ => 4
  | .abs _ => 4
  | .abx _ => 4
  | .aby _ => 4
  | .izx _ => 6
  | .izy _ => 5

/-- LDX. -/
def ldxCycles : LdxOperand → Nat
  | .imm _ => 2
  | .zp _ => 3
  | .zpy _ => 4
  | .abs _ => 4
  | .aby _ => 4

/-- LDY. -/
def ldyCycles : LdyOperand → Nat
  | .imm _ => 2
  | .zp _ => 3
  | .zpx _ => 4
  | .abs _ => 4
  | .abx _ => 4

/-- CPX, CPY. -/
def cpCycles : CpOperand → Nat
  | .imm _ => 2
  | .zp _ => 3
  | .abs _ => 4

/-- STA. -/
def staCycles : StaOperand → Nat
  | .zp _ => 3
  | .zpx _ => 4
  | .abs _ => 4
  | .abx _ => 5
  | .aby _ => 5
  | .izx _ => 6
  | .izy _ => 6

/-- STX. -/
def stxCycles : StxOperand → Nat
  | .zp _ => 3
  | .zpy _ => 4
  | .abs _ => 4

/-- STY. -/
def styCycles : StyOperand → Nat
  | .zp _ => 3
  | .zpx _ => 4
  | .abs _ => 4

/-- BIT. -/
def bitCycles : BitOperand → Nat
  | .zp _ => 3
  | .abs _ => 4

/-- ASL, LSR, ROL, ROR. -/
def shiftCycles : ShiftOperand → Nat
  | .acc => 2
  | .zp _ => 5
  | .zpx _ => 6
  | .abs _ => 6
  | .abx _ => 7

/-- INC, DEC. -/
def incCycles : IncOperand → Nat
  | .zp _ => 5
  | .zpx _ => 6
  | .abs _ => 6
  | .abx _ => 7

/-- JMP. -/
def jmpCycles : JmpOperand → Nat
  | .abs _ => 3
  | .ind _ => 5

/-- `base` of 70_reset_and_hazards.md R318. -/
def baseCycles : Instr → Nat
  | .lda o | .adc o | .sbc o | .cmp o | .and o | .ora o | .eor o => aluCycles o
  | .ldx o => ldxCycles o
  | .ldy o => ldyCycles o
  | .cpx o | .cpy o => cpCycles o
  | .sta o => staCycles o
  | .stx o => stxCycles o
  | .sty o => styCycles o
  | .bit o => bitCycles o
  | .asl o | .lsr o | .rol o | .ror o => shiftCycles o
  | .inc o | .dec o => incCycles o
  | .jmp o => jmpCycles o
  | .tax | .tay | .txa | .tya | .tsx | .txs | .inx | .dex | .iny | .dey => 2
  | .clc | .sec | .cld | .sed | .cli | .sei | .clv | .nop => 2
  | .bcc _ | .bcs _ | .bne _ | .beq _ | .bpl _ | .bmi _ | .bvc _ | .bvs _ => 2
  | .pha | .php => 3
  | .pla | .plp => 4
  | .jsr _ | .rts | .rti => 6
  | .brk => 7
  | .undef _ => 0

end Sys2Proof.Machine
end

