-- ==== Sys2Proof/Machine/Sequence.lean ====
section
/-! DEFINITION. The parts of the step sequence of 40_dispatch_and_operand_decoder.md R100: halt, interrupt sampling, fetch,
dispatch, and the failure of the bus. -/

namespace Sys2Proof.Machine

open Sys2Proof

/-- The outputs at the start of a step: no cycle counted, no status to report, no transaction made. -/
def State.clearOutputs (s : State) : State := { s with cycles := 0, status := .ok, bus := [] }

/-- Interrupt sampling (60_exceptions.md R276): NMI first, an IRQ only when I is 0, at most one entry. -/
def sampleInterrupts (s : State) : State :=
  if s.nmiPending then
    (interruptEntry (s.setNmiPending false) nmiVector false).addCycles s.cfg.intEntryCycles
  else if s.irqPending && !s.p.i then
    (interruptEntry (s.setIrqPending false) irqVector false).addCycles s.cfg.intEntryCycles
  else s

/-- The opcode fetch and the operand fetches (R102, R106 to R116), each byte once and in order. All operand bytes are
fetched before the meaning runs (20_memory.md R67, R68). -/
def fetchInstr (s : State) : Instr × State :=
  let op := fetch8 s
  match opcodeTable op.1 with
  | .f1 i => (i, op.2)
  | .f2 mk =>
    let d := fetch8 op.2
    (mk d.1, d.2)
  | .f3 mk =>
    let lo := fetch8 op.2
    let hi := fetch8 lo.2
    (mk (mkWord hi.1 lo.1), hi.2)

/-- Fetch, then the meaning with the base count charged (R100 parts 2 and 3). -/
def runInstr (s : State) : Host.Outcome State Fault Refusal :=
  let r := fetchInstr s
  exec r.1 (r.2.addCycles (baseCycles r.1))

/-- Did the bus fail at this transaction (20_memory.md R70): the adapter at the address, or the substituted bus itself. -/
def BusAccess.fails (cfg : Config) : BusAccess → Bool
  | .failed _ => true
  | .read a _ => cfg.failingAddrs.contains a
  | .write a _ => cfg.failingAddrs.contains a

/-- A failed access ends the event at that access (20_memory.md R70, 60_exceptions.md R279): nothing after the first failing
transaction counts, and nothing before it depends on it. -/
def failAtBus (o : Host.Outcome State Fault Refusal) : Host.Outcome State Fault Refusal :=
  match o with
  | .next t =>
    match t.bus.find? (fun b => b.fails t.cfg) with
    | some b => .fault (.busFault b.addr)
    | none => .next t
  | .fault f => .fault f
  | .refused r => .refused r

/-- `Step()` (R100). With `halt_req` nothing happens but the report (60_exceptions.md R284). -/
def stepSequence (s : State) : Host.Outcome State Fault Refusal :=
  if s.haltReq then .next (s.clearOutputs.setStatus .haltRequested)
  else failAtBus (runInstr (sampleInterrupts s.clearOutputs))

end Sys2Proof.Machine
end

