-- ==== Sys2Proof/Machine/Step.lean ====
section
/-! DEFINITION. One step of the machine, and the placing of an instruction where the next step fetches. -/

namespace Sys2Proof.Machine

open Sys2Proof

/-- The `step` event: refused before the first reset (10_state.md R42), else the sequence of
40_dispatch_and_operand_decoder.md R100. -/
def step (s : State) : Host.Outcome State Fault Refusal :=
  if s.started then stepSequence s else .refused .beforeFirstReset

/-- The three bytes of an instruction word of spec/opcode_table.json stored at PC, in a state whose next step fetches there
(log entry 10). -/
def State.withFetchWord (s : State) (nbits w : Nat) : State :=
  s.readyToFetch.loadBytes s.pc (tableBytes nbits w)

end Sys2Proof.Machine
end

