-- ==== Sys2Proof/Machine/Events.lean ====
section
/-! DEFINITION. The events of the block (00_scope.md R10, R11), and its `snapshot`. -/

namespace Sys2Proof.Machine

open Sys2Proof

/-- What the environment does to the block, one event at a time. -/
inductive Event where
  | reset
  | step
  | irqReq
  | nmiReq
  /-- The level of `halt_req`. -/
  | setHalt (level : Bool)
  /-- The environment changes a byte of its memory between events (20_memory.md R52, R64). -/
  | poke (a : Word) (v : Byte)
  /-- The environment changes the state of a substituted bus between events (20_memory.md R53, R64). -/
  | setDevice (d : List Nat)
  deriving DecidableEq, Repr

/-- The `reset` event (70_reset_and_hazards.md R300); over a bus that fails at the vector it ends as a step would (log
entry 6). -/
def resetEvent (s : State) : Host.Outcome State Fault Refusal := failAtBus (.next (resetSequence s))

/-- `irq_req` (60_exceptions.md R274); refused before the first reset (10_state.md R42). -/
def irqEvent (s : State) : Host.Outcome State Fault Refusal :=
  if s.started then .next (s.setIrqPending true) else .refused .beforeFirstReset

/-- `nmi_req` (60_exceptions.md R275); refused before the first reset (10_state.md R42). -/
def nmiEvent (s : State) : Host.Outcome State Fault Refusal :=
  if s.started then .next (s.setNmiPending true) else .refused .beforeFirstReset

/-- One event. -/
def applyEvent (e : Event) (s : State) : Host.Outcome State Fault Refusal :=
  match e with
  | .reset => resetEvent s
  | .step => step s
  | .irqReq => irqEvent s
  | .nmiReq => nmiEvent s
  | .setHalt level => .next (s.setHaltReq level)
  | .poke a v => .next (s.loadBytes a [v])
  | .setDevice d => .next (s.setDevice d)

/-- The block as constructed, before the first reset: the register fields hold placeholders that no event reads (R42; log
entry 9). -/
def State.constructed (cfg : Config) (mem : Memory) : State :=
  { State.reset with mem := mem, cfg := cfg, started := false, bus := [] }

/-- What `snapshot` presents (60_exceptions.md R288). -/
structure Snapshot where
  pc : Word
  sp : Byte
  a : Byte
  x : Byte
  y : Byte
  c : Bool
  z : Bool
  i : Bool
  d : Bool
  b : Bool
  v : Bool
  n : Bool
  deriving DecidableEq, Repr

/-- `snapshot` (60_exceptions.md R288): the registers and flags with B shown as 0; nothing before the first reset, when they
hold no value (10_state.md R42). -/
def snapshot (s : State) : Option Snapshot :=
  if s.started then
    some { pc := s.pc, sp := s.sp, a := s.a, x := s.x, y := s.y, c := s.p.c, z := s.p.z, i := s.p.i, d := s.p.d,
           b := false, v := s.p.v, n := s.p.n }
  else none

end Sys2Proof.Machine
end

