-- ==== Sys2Proof/Safety.lean ====
section
/-! DEFINITION. What counts as a good state and a safe run. -/

namespace Sys2Proof.Machine

open Sys2Proof

/-- Does the status output fit the inputs: `IllegalOpcode` only under STRICT_ILLEGAL and only for one of the 105 bytes
(49_flags_nop_undefined.md R259). -/
def statusFits (s : State) : Bool :=
  match s.status with
  | .ok => true
  | .haltRequested => true
  | .illegalOpcode b => s.cfg.strictIllegal && undefinedOpcodes.contains b

/-- The invariant of the machine: a reset has happened, the memory has its canonical form, and the status output fits. -/
def State.Inv (s : State) : Prop :=
  s.started = true ∧ Memory.wf s.mem = true ∧ statusFits s = true

/-- The bus is the default memory of 20_memory.md R52, which never fails. -/
def State.OnDefaultBus (s : State) : Prop := s.cfg.substituted = [] ∧ s.cfg.failingAddrs = []

/-- The events one after another, up to the first fault or refusal. -/
def runEvents : List Event → State → Host.Outcome State Fault Refusal
  | [], s => .next s
  | e :: rest, s =>
    match applyEvent e s with
    | .next t => runEvents rest t
    | .fault f => .fault f
    | .refused r => .refused r

end Sys2Proof.Machine
end

