-- ==== Sys2Proof/Certificates/Slice0/Obligations.lean ====
section
/-! DEFINITION. The statements for the provers. First the words they are made of, then one definition per obligation. A
meaning runs after the fetch (10_state.md R25), so in a statement about `exec` the PC of `s` is past the instruction's bytes,
and `cycles` and `bus` of `s` are what the step has counted and done before. A state given as a record update of `s` says
that every other field, memory among them, is as in `s`.

A statement holds over every bus (00_scope.md R9, 20_memory.md R53): the bytes read are those that the bus answers, one access
after another, and `device` and `bus` are what the accesses leave. What a statement says beside that under `OnRam` is the same
over the default memory of R52, in which a read answers the byte the memory holds. MemoryIsReadAfterWrite says what one access
does over either.

Where a clause rests on a decision or an inference that the spec marks as its own (D<n> of 92_eei_decisions.md) or on a choice
of the model (a log entry), the docstring names it. For all of the statements together: the opcode bytes and base counts are
the spec's general knowledge, 93_implementation_defined.md G1 and G2 (log entry 4), and that the transactions a rule lists are
all there are, in that order, is decision D10 (log entry 17). -/

namespace Sys2Proof.Claims

open Sys2Proof Sys2Proof.Machine

/-- The byte `op` alone is the instruction `i`, with base cycle count `base` (30_encoding.md R82 format F1, R86). -/
def Opcode1 (op : Byte) (base : Nat) (i : Instr) : Prop :=
  (∀ rest, decode (op :: rest) = .ok (i, rest)) ∧ baseCycles i = base

/-- The byte `op` and an operand byte are the instruction `mk d` (format F2). -/
def Opcode2 (op : Byte) (base : Nat) (mk : Byte → Instr) : Prop :=
  ∀ d, (∀ rest, decode (op :: d :: rest) = .ok (mk d, rest)) ∧ baseCycles (mk d) = base

/-- The byte `op` and an operand word, low byte first, are the instruction `mk w` (format F3). -/
def Opcode3 (op : Byte) (base : Nat) (mk : Word → Instr) : Prop :=
  ∀ lo hi, (∀ rest, decode (op :: lo :: hi :: rest) = .ok (mk (mkWord hi lo), rest)) ∧
    baseCycles (mk (mkWord hi lo)) = base

/-- The eight rows of an instruction of the modes of LDA, in the order of R86, with the counts of the read class. -/
def AluOpcodes (i : AluOperand → Instr) (imm zp zpx abs abx aby izx izy : Byte) : Prop :=
  Opcode2 imm 2 (fun v => i (.imm v)) ∧ Opcode2 zp 3 (fun d => i (.zp d)) ∧ Opcode2 zpx 4 (fun d => i (.zpx d)) ∧
  Opcode3 abs 4 (fun w => i (.abs w)) ∧ Opcode3 abx 4 (fun w => i (.abx w)) ∧ Opcode3 aby 4 (fun w => i (.aby w)) ∧
  Opcode2 izx 6 (fun d => i (.izx d)) ∧ Opcode2 izy 5 (fun d => i (.izy d))

/-- The five rows of a shift or rotate. -/
def ShiftOpcodes (i : ShiftOperand → Instr) (acc zp zpx abs abx : Byte) : Prop :=
  Opcode1 acc 2 (i .acc) ∧ Opcode2 zp 5 (fun d => i (.zp d)) ∧ Opcode2 zpx 6 (fun d => i (.zpx d)) ∧
  Opcode3 abs 6 (fun w => i (.abs w)) ∧ Opcode3 abx 7 (fun w => i (.abx w))

/-- The four rows of INC or DEC. -/
def IncOpcodes (i : IncOperand → Instr) (zp zpx abs abx : Byte) : Prop :=
  Opcode2 zp 5 (fun d => i (.zp d)) ∧ Opcode2 zpx 6 (fun d => i (.zpx d)) ∧
  Opcode3 abs 6 (fun w => i (.abs w)) ∧ Opcode3 abx 7 (fun w => i (.abx w))

/-- The operand byte M of a reading instruction (40_dispatch_and_operand_decoder.md R117): an immediate, or what the bus answers
to a read of the effective address after the decoder's own reads. -/
def operandByte (s : State) : Source → Byte
  | .imm v => v
  | .mem o => (memRead (locate s o).state (locate s o).addr).1

/-- The state after the operand byte is read: an immediate makes no access. -/
def operandState (s : State) : Source → State
  | .imm _ => s
  | .mem o => (memRead (locate s o).state (locate s o).addr).2

/-- The decoder's `crossed` bit; an immediate has none. -/
def operandCrossed (s : State) : Source → Bool
  | .imm _ => false
  | .mem o => (locate s o).crossed

/-- `SetNZ(v)` (41_flag_and_stack_primitives.md R130): Z and N from `v`, the other four flags as they were. -/
def withNZ (p : Flags) (v : Byte) : Flags := { p with z := decide (v = 0x00), n := v.getLsbD 7 }

/-- `$0100 + SP`. -/
def slot (sp : Byte) : Word := 0x0100 + sp.setWidth 16

/-- The address `a` of the default memory was written with `v` between `s` and `t`: it holds `v`, or what it held where the
default memory does not serve it. -/
def StoredAt (s t : State) (a : Word) (v : Byte) : Prop :=
  t.byteAt a = if s.cfg.substitutes a then s.byteAt a else v

/-- Address `a` was written with `v`, and every other address of the default memory holds what it held in `s`. -/
def StoredByte (s t : State) (a : Word) (v : Byte) : Prop :=
  StoredAt s t a v ∧ ∀ b, b ≠ a → t.byteAt b = s.byteAt b

/-- The two stack slots from `sp` down were written with the bytes of `w`, and every other address holds what it held in
`s`. -/
def StoredWordOnStack (s t : State) (sp : Byte) (w : Word) : Prop :=
  StoredAt s t (slot sp) (hiByte w) ∧ StoredAt s t (slot (sp - 1)) (loByte w) ∧
  ∀ b, b ≠ slot sp → b ≠ slot (sp - 1) → t.byteAt b = s.byteAt b

/-- The three stack slots from `sp` down were written with the bytes of `w` and then `v`, and every other address holds what
it held in `s`. -/
def StoredFrameOnStack (s t : State) (sp : Byte) (w : Word) (v : Byte) : Prop :=
  StoredAt s t (slot sp) (hiByte w) ∧ StoredAt s t (slot (sp - 1)) (loByte w) ∧ StoredAt s t (slot (sp - 2)) v ∧
  ∀ b, b ≠ slot sp → b ≠ slot (sp - 1) → b ≠ slot (sp - 2) → t.byteAt b = s.byteAt b

/-- The state of the bus and the transactions of `t` are those of `u`, where the accesses were made one after another; over
the default memory they are the list `l`. -/
def BusEnds (s t u : State) (l : List BusAccess) : Prop :=
  t.device = u.device ∧ t.bus = u.bus ∧ (s.OnRam → t.device = s.device ∧ t.bus = l)

/-- A store of a register to an effective address: one write, nothing else. -/
def StoreRule (i : Instr) (o : AddrOperand) (r : State → Byte) : Prop :=
  ∀ s, ∃ t, exec i s = .next t ∧
    t = { s with mem := t.mem, device := t.device, bus := t.bus } ∧
    BusEnds s t (memWrite (locate s o).state (locate s o).addr (r s))
      ((locate s o).state.bus ++ [.write (locate s o).addr (r s)]) ∧
    StoredByte s t (locate s o).addr (r s)

/-- The flags after a compare of a register with M (43_arithmetic_compare.md R182). -/
def compareFlags (p : Flags) (reg m : Byte) : Flags :=
  { p with c := decide (reg.toNat ≥ m.toNat), z := decide (reg = m), n := (reg - m).getLsbD 7 }

/-- A logic instruction: `f A M` into A with N and Z, and the crossing penalty. -/
def LogicRule (i : AluOperand → Instr) (f : Byte → Byte → Byte) : Prop :=
  ∀ (o : AluOperand) (s : State),
    exec (i o) s = .next { s with
      a := f s.a (operandByte s o.source)
      p := withNZ s.p (f s.a (operandByte s o.source))
      cycles := s.cycles + (operandCrossed s o.source).toNat
      device := (operandState s o.source).device
      bus := (operandState s o.source).bus }

/-- A shift or rotate (45_shift_rotate.md R200): the result modulo 256 and the new C as functions of the old byte and C. -/
def ShiftRule (i : ShiftOperand → Instr) (f : Nat → Nat → Nat) (carry : Byte → Bool) : Prop :=
  ∀ (o : ShiftOperand) (s : State),
    match o.target with
    | .acc =>
      let r := BitVec.ofNat 8 (f s.a.toNat s.p.c.toNat)
      exec (i o) s = .next { s with a := r, p := { withNZ s.p r with c := carry s.a } }
    | .mem m =>
      let a := (locate s m).addr
      let v := operandByte s (.mem m)
      let r := BitVec.ofNat 8 (f v.toNat s.p.c.toNat)
      ∃ t, exec (i o) s = .next t ∧
        t = { s with p := { withNZ s.p r with c := carry v }, mem := t.mem, device := t.device, bus := t.bus } ∧
        BusEnds s t (memWrite (operandState s (.mem m)) a r) ((locate s m).state.bus ++ [.read a v, .write a r]) ∧
        StoredByte s t a r ∧ (s.OnRam → v = s.byteAt a)

/-- A memory byte stepped up or down modulo 256 with N and Z (46_inc_dec.md R210, R211). -/
def ModifyRule (i : IncOperand → Instr) (f : Nat → Nat) : Prop :=
  ∀ (o : IncOperand) (s : State),
    let a := (locate s o.addr).addr
    let v := operandByte s (.mem o.addr)
    let r := BitVec.ofNat 8 (f v.toNat)
    ∃ t, exec (i o) s = .next t ∧
      t = { s with p := withNZ s.p r, mem := t.mem, device := t.device, bus := t.bus } ∧
      BusEnds s t (memWrite (operandState s (.mem o.addr)) a r)
        ((locate s o.addr).state.bus ++ [.read a v, .write a r]) ∧
      StoredByte s t a r ∧ (s.OnRam → v = s.byteAt a)

/-- A branch (47_branches.md R220). -/
def BranchRule (i : Byte → Instr) (taken : Flags → Bool) : Prop :=
  ∀ (d : Byte) (s : State), ∃ t, exec (i d) s = .next t ∧
    (taken s.p = false → t = s) ∧
    (taken s.p = true →
      (t.pc.toNat : Int) = ((s.pc.toNat : Int) + d.toInt) % 65536 ∧
      t = { s with
        pc := t.pc
        cycles := s.cycles + 1 + (if t.pc.toNat / 256 = s.pc.toNat / 256 then 0 else 1) })

/-- The flags that BRK, IRQ and NMI leave: I is 1, the rest is as it was. -/
def withI (p : Flags) : Flags := { p with i := true }

/-- The state `t` that an entry through the vector at `vec` leaves from `s`, with bit 4 of the pushed P equal to `b` and
return address `ret` (60_exceptions.md R277, R280): three writes, then the two reads of the vector. -/
def Entered (s t : State) (vec : Word) (b : Bool) (ret : Word) : Prop :=
  let w := memWrite (memWrite (memWrite s (slot s.sp) (hiByte ret)) (slot (s.sp - 1)) (loByte ret))
    (slot (s.sp - 2)) (packP s.p b)
  let lo := memRead w vec
  let hi := memRead lo.2 (vec + 1)
  t = { s with
    pc := mkWord hi.1 lo.1, sp := s.sp - 3, p := withI s.p, mem := t.mem, device := t.device, bus := t.bus } ∧
  BusEnds s t hi.2 (s.bus ++ [.write (slot s.sp) (hiByte ret), .write (slot (s.sp - 1)) (loByte ret),
    .write (slot (s.sp - 2)) (packP s.p b), .read vec (s.byteAt vec), .read (vec + 1) (s.byteAt (vec + 1))]) ∧
  StoredFrameOnStack s t s.sp ret (packP s.p b) ∧
  (s.OnRam → t.pc = mkWord (s.byteAt (vec + 1)) (s.byteAt vec))

/-- The `n` bytes that the bus answers to the fetches from PC, and the state after them
(40_dispatch_and_operand_decoder.md R102). -/
def fetched : Nat → State → List Byte × State
  | 0, s => ([], s)
  | n + 1, s =>
    let r := memRead s s.pc
    let q := fetched n { r.2 with pc := s.pc + 1 }
    (r.1 :: q.1, q.2)

/-- The three bytes from PC, as the default memory holds them. -/
def bytesAtPC (s : State) : List Byte := [s.byteAt s.pc, s.byteAt (s.pc + 1), s.byteAt (s.pc + 2)]

/-- The fetch transactions of `n` bytes from PC over the default memory. -/
def fetches (s : State) (n : Nat) : List BusAccess :=
  [.read s.pc (s.byteAt s.pc), .read (s.pc + 1) (s.byteAt (s.pc + 1)), .read (s.pc + 2) (s.byteAt (s.pc + 2))].take n

/-- What a step does after the sampling of interrupts left `e`: the instruction `i` of the bytes at PC runs with PC past its
bytes, its base count charged and its fetches made. -/
def runFrom (e : State) (i : Instr) : Host.Outcome State Fault Refusal :=
  exec i { e with pc := e.pc + BitVec.ofNat 16 i.length, cycles := e.cycles + baseCycles i, bus := e.bus ++ fetches e i.length }

/-- No interrupt is taken at the start of a step from `s` (60_exceptions.md R276). -/
def NoEntry (s : State) : Prop := s.nmiPending = false ∧ (s.irqPending = false ∨ s.p.i = true)

/-- The penalty of an instruction that runs in `s` (70_reset_and_hazards.md R319, R320). -/
def penalty (i : Instr) (s : State) : Nat :=
  match i with
  | .lda o | .adc o | .sbc o | .cmp o | .and o | .ora o | .eor o => (operandCrossed s o.source).toNat
  | .ldx o => (operandCrossed s o.source).toNat
  | .ldy o => (operandCrossed s o.source).toNat
  | .bcc d => branchCost (!s.p.c) d
  | .bcs d => branchCost s.p.c d
  | .bne d => branchCost (!s.p.z) d
  | .beq d => branchCost s.p.z d
  | .bpl d => branchCost (!s.p.n) d
  | .bmi d => branchCost s.p.n d
  | .bvc d => branchCost (!s.p.v) d
  | .bvs d => branchCost s.p.v d
  | .sta _ | .stx _ | .sty _ | .tax | .tay | .txa | .tya | .tsx | .txs | .pha | .pla | .php | .plp | .cpx _ | .cpy _
  | .bit _ | .asl _ | .lsr _ | .rol _ | .ror _ | .inc _ | .dec _ | .inx | .dex | .iny | .dey | .jmp _ | .jsr _ | .rts
  | .brk | .rti | .clc | .sec | .cld | .sed | .cli | .sei | .clv | .nop | .undef _ => 0
where
  branchCost (taken : Bool) (d : Byte) : Nat :=
    let target := ((s.pc.toNat : Int) + d.toInt) % 65536
    if taken then (if target / 256 = (s.pc.toNat : Int) / 256 then 1 else 2) else 0

/-- The addresses an instruction stores to, with the functions its meaning uses. -/
def storedAddrs (i : Instr) (s : State) : List Word :=
  match i with
  | .sta o => [(locate s o.addr).addr]
  | .stx o => [(locate s o.addr).addr]
  | .sty o => [(locate s o.addr).addr]
  | .inc o | .dec o => [(locate s o.addr).addr]
  | .asl o | .lsr o | .rol o | .ror o =>
    match o.target with
    | .acc => []
    | .mem m => [(locate s m).addr]
  | .pha | .php => [stackAddr s.sp]
  | .jsr _ => [stackAddr s.sp, stackAddr (s.sp - 1)]
  | .brk => [stackAddr s.sp, stackAddr (s.sp - 1), stackAddr (s.sp - 2)]
  | .lda _ | .ldx _ | .ldy _ | .tax | .tay | .txa | .tya | .tsx | .txs | .pla | .plp | .adc _ | .sbc _ | .cmp _ | .cpx _
  | .cpy _ | .and _ | .ora _ | .eor _ | .bit _ | .inx | .dex | .iny | .dey | .bcc _ | .bcs _ | .bne _ | .beq _ | .bpl _
  | .bmi _ | .bvc _ | .bvs _ | .jmp _ | .rts | .rti | .clc | .sec | .cld | .sed | .cli | .sei | .clv | .nop | .undef _ => []

/-- The instructions that write A (10_state.md R21). -/
def writesA : Instr → Bool
  | .lda _ | .txa | .tya | .pla | .adc _ | .sbc _ | .and _ | .ora _ | .eor _ => true
  | .asl o | .lsr o | .rol o | .ror o => o == .acc
  | .ldx _ | .ldy _ | .sta _ | .stx _ | .sty _ | .tax | .tay | .tsx | .txs | .pha | .php | .plp | .cmp _ | .cpx _
  | .cpy _ | .bit _ | .inc _ | .dec _ | .inx | .dex | .iny | .dey | .bcc _ | .bcs _ | .bne _ | .beq _ | .bpl _
  | .bmi _ | .bvc _ | .bvs _ | .jmp _ | .jsr _ | .rts | .brk | .rti | .clc | .sec | .cld | .sed | .cli | .sei | .clv
  | .nop | .undef _ => false

/-- The instructions that write X (R22). -/
def writesX : Instr → Bool
  | .ldx _ | .tax | .tsx | .inx | .dex => true
  | .lda _ | .ldy _ | .sta _ | .stx _ | .sty _ | .tay | .txa | .tya | .txs | .pha | .pla | .php | .plp | .adc _
  | .sbc _ | .cmp _ | .cpx _ | .cpy _ | .and _ | .ora _ | .eor _ | .bit _ | .asl _ | .lsr _ | .rol _ | .ror _
  | .inc _ | .dec _ | .iny | .dey | .bcc _ | .bcs _ | .bne _ | .beq _ | .bpl _ | .bmi _ | .bvc _ | .bvs _ | .jmp _
  | .jsr _ | .rts | .brk | .rti | .clc | .sec | .cld | .sed | .cli | .sei | .clv | .nop | .undef _ => false

/-- The instructions that write Y (R22). -/
def writesY : Instr → Bool
  | .ldy _ | .tay | .iny | .dey => true
  | .lda _ | .ldx _ | .sta _ | .stx _ | .sty _ | .tax | .txa | .tya | .tsx | .txs | .pha | .pla | .php | .plp
  | .adc _ | .sbc _ | .cmp _ | .cpx _ | .cpy _ | .and _ | .ora _ | .eor _ | .bit _ | .asl _ | .lsr _ | .rol _
  | .ror _ | .inc _ | .dec _ | .inx | .dex | .bcc _ | .bcs _ | .bne _ | .beq _ | .bpl _ | .bmi _ | .bvc _ | .bvs _
  | .jmp _ | .jsr _ | .rts | .brk | .rti | .clc | .sec | .cld | .sed | .cli | .sei | .clv | .nop | .undef _ => false

/-- The instructions that write SP (R23). -/
def writesSP : Instr → Bool
  | .txs | .pha | .pla | .php | .plp | .jsr _ | .rts | .brk | .rti => true
  | .lda _ | .ldx _ | .ldy _ | .sta _ | .stx _ | .sty _ | .tax | .tay | .txa | .tya | .tsx | .adc _ | .sbc _
  | .cmp _ | .cpx _ | .cpy _ | .and _ | .ora _ | .eor _ | .bit _ | .asl _ | .lsr _ | .rol _ | .ror _ | .inc _
  | .dec _ | .inx | .dex | .iny | .dey | .bcc _ | .bcs _ | .bne _ | .beq _ | .bpl _ | .bmi _ | .bvc _ | .bvs _
  | .jmp _ | .clc | .sec | .cld | .sed | .cli | .sei | .clv | .nop | .undef _ => false

/-- The instructions that write PC other than by fetching (R27). -/
def writesPC : Instr → Bool
  | .bcc _ | .bcs _ | .bne _ | .beq _ | .bpl _ | .bmi _ | .bvc _ | .bvs _ | .jmp _ | .jsr _ | .rts | .brk
  | .rti => true
  | .lda _ | .ldx _ | .ldy _ | .sta _ | .stx _ | .sty _ | .tax | .tay | .txa | .tya | .tsx | .txs | .pha | .pla
  | .php | .plp | .adc _ | .sbc _ | .cmp _ | .cpx _ | .cpy _ | .and _ | .ora _ | .eor _ | .bit _ | .asl _ | .lsr _
  | .rol _ | .ror _ | .inc _ | .dec _ | .inx | .dex | .iny | .dey | .clc | .sec | .cld | .sed | .cli | .sei | .clv
  | .nop | .undef _ => false

/-- The instructions that write N and Z (R38): every flag setter of the table but CLC, SEC, CLD, SED, CLI, SEI, CLV, BRK. -/
def writesNZ : Instr → Bool
  | .lda _ | .ldx _ | .ldy _ | .tax | .tay | .txa | .tya | .tsx | .pla | .plp | .adc _ | .sbc _ | .cmp _ | .cpx _
  | .cpy _ | .and _ | .ora _ | .eor _ | .bit _ | .asl _ | .lsr _ | .rol _ | .ror _ | .inc _ | .dec _ | .inx | .dex
  | .iny | .dey | .rti => true
  | .sta _ | .stx _ | .sty _ | .txs | .pha | .php | .bcc _ | .bcs _ | .bne _ | .beq _ | .bpl _ | .bmi _ | .bvc _
  | .bvs _ | .jmp _ | .jsr _ | .rts | .brk | .clc | .sec | .cld | .sed | .cli | .sei | .clv | .nop | .undef _ => false

/-- The instructions that write C (R38). -/
def writesC : Instr → Bool
  | .plp | .adc _ | .sbc _ | .cmp _ | .cpx _ | .cpy _ | .asl _ | .lsr _ | .rol _ | .ror _ | .rti | .clc | .sec => true
  | .lda _ | .ldx _ | .ldy _ | .sta _ | .stx _ | .sty _ | .tax | .tay | .txa | .tya | .tsx | .txs | .pha | .pla
  | .php | .and _ | .ora _ | .eor _ | .bit _ | .inc _ | .dec _ | .inx | .dex | .iny | .dey | .bcc _ | .bcs _
  | .bne _ | .beq _ | .bpl _ | .bmi _ | .bvc _ | .bvs _ | .jmp _ | .jsr _ | .rts | .brk | .cld | .sed | .cli | .sei
  | .clv | .nop | .undef _ => false

/-- The instructions that write V (R38). -/
def writesV : Instr → Bool
  | .plp | .adc _ | .sbc _ | .bit _ | .rti | .clv => true
  | .lda _ | .ldx _ | .ldy _ | .sta _ | .stx _ | .sty _ | .tax | .tay | .txa | .tya | .tsx | .txs | .pha | .pla
  | .php | .cmp _ | .cpx _ | .cpy _ | .and _ | .ora _ | .eor _ | .asl _ | .lsr _ | .rol _ | .ror _ | .inc _ | .dec _
  | .inx | .dex | .iny | .dey | .bcc _ | .bcs _ | .bne _ | .beq _ | .bpl _ | .bmi _ | .bvc _ | .bvs _ | .jmp _
  | .jsr _ | .rts | .brk | .clc | .sec | .cld | .sed | .cli | .sei | .nop | .undef _ => false

/-- The instructions that write D (R38). -/
def writesD : Instr → Bool
  | .plp | .rti | .cld | .sed => true
  | .lda _ | .ldx _ | .ldy _ | .sta _ | .stx _ | .sty _ | .tax | .tay | .txa | .tya | .tsx | .txs | .pha | .pla
  | .php | .adc _ | .sbc _ | .cmp _ | .cpx _ | .cpy _ | .and _ | .ora _ | .eor _ | .bit _ | .asl _ | .lsr _ | .rol _
  | .ror _ | .inc _ | .dec _ | .inx | .dex | .iny | .dey | .bcc _ | .bcs _ | .bne _ | .beq _ | .bpl _ | .bmi _
  | .bvc _ | .bvs _ | .jmp _ | .jsr _ | .rts | .brk | .clc | .sec | .cli | .sei | .clv | .nop | .undef _ => false

/-- The instructions that write I (R38). -/
def writesI : Instr → Bool
  | .plp | .brk | .rti | .cli | .sei => true
  | .lda _ | .ldx _ | .ldy _ | .sta _ | .stx _ | .sty _ | .tax | .tay | .txa | .tya | .tsx | .txs | .pha | .pla
  | .php | .adc _ | .sbc _ | .cmp _ | .cpx _ | .cpy _ | .and _ | .ora _ | .eor _ | .bit _ | .asl _ | .lsr _ | .rol _
  | .ror _ | .inc _ | .dec _ | .inx | .dex | .iny | .dey | .bcc _ | .bcs _ | .bne _ | .beq _ | .bpl _ | .bmi _
  | .bvc _ | .bvs _ | .jmp _ | .jsr _ | .rts | .clc | .sec | .cld | .sed | .clv | .nop | .undef _ => false

/-- The instructions that push P, and so read D (R34). -/
def pushesP : Instr → Bool
  | .php | .brk => true
  | .lda _ | .ldx _ | .ldy _ | .sta _ | .stx _ | .sty _ | .tax | .tay | .txa | .tya | .tsx | .txs | .pha | .pla
  | .plp | .adc _ | .sbc _ | .cmp _ | .cpx _ | .cpy _ | .and _ | .ora _ | .eor _ | .bit _ | .asl _ | .lsr _ | .rol _
  | .ror _ | .inc _ | .dec _ | .inx | .dex | .iny | .dey | .bcc _ | .bcs _ | .bne _ | .beq _ | .bpl _ | .bmi _
  | .bvc _ | .bvs _ | .jmp _ | .jsr _ | .rts | .rti | .clc | .sec | .cld | .sed | .cli | .sei | .clv | .nop
  | .undef _ => false

/-- The status that R270 gives a step which ran the instruction `i`. -/
def statusOf (strict : Bool) : Instr → Status
  | .undef b => if strict then .illegalOpcode b else .ok
  | _ => .ok

/-- Did the bus fail at a transaction: the substituted bus said so, or the adapter fails at its address. -/
def FailsAt (cfg : Config) (acc : BusAccess) : Prop := acc = .failed acc.addr ∨ acc.addr ∈ cfg.failingAddrs

end Sys2Proof.Claims

open Sys2Proof Sys2Proof.Machine Sys2Proof.Claims

/-! ## The instructions, family by family: opcodes, base counts, effect, frame, transactions, penalty -/

/-- 42_load_store_transfer_stack.md R150, R151, R152. -/
def Obligations.LoadsWriteRegisterAndNZ : Prop :=
  AluOpcodes .lda 0xA9 0xA5 0xB5 0xAD 0xBD 0xB9 0xA1 0xB1 ∧
  (Opcode2 0xA2 2 (fun v => .ldx (.imm v)) ∧ Opcode2 0xA6 3 (fun d => .ldx (.zp d)) ∧
    Opcode2 0xB6 4 (fun d => .ldx (.zpy d)) ∧ Opcode3 0xAE 4 (fun w => .ldx (.abs w)) ∧
    Opcode3 0xBE 4 (fun w => .ldx (.aby w))) ∧
  (Opcode2 0xA0 2 (fun v => .ldy (.imm v)) ∧ Opcode2 0xA4 3 (fun d => .ldy (.zp d)) ∧
    Opcode2 0xB4 4 (fun d => .ldy (.zpx d)) ∧ Opcode3 0xAC 4 (fun w => .ldy (.abs w)) ∧
    Opcode3 0xBC 4 (fun w => .ldy (.abx w))) ∧
  (∀ (o : AluOperand) (s : State),
    exec (.lda o) s = .next { s with
      a := operandByte s o.source
      p := withNZ s.p (operandByte s o.source)
      cycles := s.cycles + (operandCrossed s o.source).toNat
      device := (operandState s o.source).device
      bus := (operandState s o.source).bus }) ∧
  (∀ (o : LdxOperand) (s : State),
    exec (.ldx o) s = .next { s with
      x := operandByte s o.source
      p := withNZ s.p (operandByte s o.source)
      cycles := s.cycles + (operandCrossed s o.source).toNat
      device := (operandState s o.source).device
      bus := (operandState s o.source).bus }) ∧
  (∀ (o : LdyOperand) (s : State),
    exec (.ldy o) s = .next { s with
      y := operandByte s o.source
      p := withNZ s.p (operandByte s o.source)
      cycles := s.cycles + (operandCrossed s o.source).toNat
      device := (operandState s o.source).device
      bus := (operandState s o.source).bus })

/-- R153, R154, R155. -/
def Obligations.StoresWriteOneByteOnly : Prop :=
  (Opcode2 0x85 3 (fun d => .sta (.zp d)) ∧ Opcode2 0x95 4 (fun d => .sta (.zpx d)) ∧
    Opcode3 0x8D 4 (fun w => .sta (.abs w)) ∧ Opcode3 0x9D 5 (fun w => .sta (.abx w)) ∧
    Opcode3 0x99 5 (fun w => .sta (.aby w)) ∧ Opcode2 0x81 6 (fun d => .sta (.izx d)) ∧
    Opcode2 0x91 6 (fun d => .sta (.izy d))) ∧
  (Opcode2 0x86 3 (fun d => .stx (.zp d)) ∧ Opcode2 0x96 4 (fun d => .stx (.zpy d)) ∧
    Opcode3 0x8E 4 (fun w => .stx (.abs w))) ∧
  (Opcode2 0x84 3 (fun d => .sty (.zp d)) ∧ Opcode2 0x94 4 (fun d => .sty (.zpx d)) ∧
    Opcode3 0x8C 4 (fun w => .sty (.abs w))) ∧
  (∀ o : StaOperand, StoreRule (.sta o) o.addr State.a) ∧
  (∀ o : StxOperand, StoreRule (.stx o) o.addr State.x) ∧
  (∀ o : StyOperand, StoreRule (.sty o) o.addr State.y)

/-- R156 to R161. -/
def Obligations.TransfersCopyRegisters : Prop :=
  (Opcode1 0xAA 2 .tax ∧ Opcode1 0xA8 2 .tay ∧ Opcode1 0x8A 2 .txa ∧ Opcode1 0x98 2 .tya ∧ Opcode1 0xBA 2 .tsx ∧
    Opcode1 0x9A 2 .txs) ∧
  ∀ s : State,
    exec .tax s = .next { s with x := s.a, p := withNZ s.p s.a } ∧
    exec .tay s = .next { s with y := s.a, p := withNZ s.p s.a } ∧
    exec .txa s = .next { s with a := s.x, p := withNZ s.p s.x } ∧
    exec .tya s = .next { s with a := s.y, p := withNZ s.p s.y } ∧
    exec .tsx s = .next { s with x := s.sp, p := withNZ s.p s.sp } ∧
    exec .txs s = .next { s with sp := s.x }

/-- R162, R164. The rule of PHA is the spec's inference from 41_flag_and_stack_primitives.md R136. -/
def Obligations.PushesWriteOneStackByte : Prop :=
  (Opcode1 0x48 3 .pha ∧ Opcode1 0x08 3 .php) ∧
  (∀ s : State, ∃ t, exec .pha s = .next t ∧
    t = { s with sp := s.sp - 1, mem := t.mem, device := t.device, bus := t.bus } ∧
    BusEnds s t (memWrite s (slot s.sp) s.a) (s.bus ++ [.write (slot s.sp) s.a]) ∧
    StoredByte s t (slot s.sp) s.a) ∧
  (∀ s : State, ∃ t, exec .php s = .next t ∧
    t = { s with sp := s.sp - 1, mem := t.mem, device := t.device, bus := t.bus } ∧
    BusEnds s t (memWrite s (slot s.sp) (packP s.p true)) (s.bus ++ [.write (slot s.sp) (packP s.p true)]) ∧
    StoredByte s t (slot s.sp) (packP s.p true))

/-- R163, R165. That PLA writes N and Z is the spec's decision D15, log entry 16. -/
def Obligations.PullsReadOneStackByte : Prop :=
  (Opcode1 0x68 4 .pla ∧ Opcode1 0x28 4 .plp) ∧
  ∀ s : State,
    let r := memRead s (slot (s.sp + 1))
    let v := r.1
    exec .pla s = .next { s with
      a := v, sp := s.sp + 1, p := withNZ s.p v, device := r.2.device, bus := r.2.bus } ∧
    exec .plp s = .next { s with
      sp := s.sp + 1
      p := { n := v.getLsbD 7, v := v.getLsbD 6, d := v.getLsbD 3, i := v.getLsbD 2, z := v.getLsbD 1, c := v.getLsbD 0 }
      device := r.2.device, bus := r.2.bus } ∧
    (s.OnRam → v = s.byteAt (slot (s.sp + 1)) ∧ BusEnds s r.2 r.2 (s.bus ++ [.read (slot (s.sp + 1)) v]))

/-- 43_arithmetic_compare.md R180. That the addition is binary whatever D holds is the spec's decision D1, log entry 14. -/
def Obligations.AdcAddsWithCarry : Prop :=
  AluOpcodes .adc 0x69 0x65 0x75 0x6D 0x7D 0x79 0x61 0x71 ∧
  ∀ (o : AluOperand) (s : State),
    let m := operandByte s o.source
    let sum := s.a.toNat + m.toNat + s.p.c.toNat
    let r := BitVec.ofNat 8 sum
    exec (.adc o) s = .next { s with
      a := r
      p := { withNZ s.p r with c := decide (sum > 0xFF), v := decide ((s.a ^^^ r) &&& (m ^^^ r) &&& 0x80 ≠ 0x00) }
      cycles := s.cycles + (operandCrossed s o.source).toNat
      device := (operandState s o.source).device
      bus := (operandState s o.source).bus }

/-- R181. Binary whatever D holds: decision D1, log entry 14. -/
def Obligations.SbcSubtractsWithBorrow : Prop :=
  AluOpcodes .sbc 0xE9 0xE5 0xF5 0xED 0xFD 0xF9 0xE1 0xF1 ∧
  ∀ (o : AluOperand) (s : State),
    let mc := ~~~ operandByte s o.source
    let sum := s.a.toNat + mc.toNat + s.p.c.toNat
    let r := BitVec.ofNat 8 sum
    exec (.sbc o) s = .next { s with
      a := r
      p := { withNZ s.p r with c := decide (sum > 0xFF), v := decide ((s.a ^^^ r) &&& (mc ^^^ r) &&& 0x80 ≠ 0x00) }
      cycles := s.cycles + (operandCrossed s o.source).toNat
      device := (operandState s o.source).device
      bus := (operandState s o.source).bus }

/-- R182, R183, R184. -/
def Obligations.ComparesSetCZN : Prop :=
  AluOpcodes .cmp 0xC9 0xC5 0xD5 0xCD 0xDD 0xD9 0xC1 0xD1 ∧
  (Opcode2 0xE0 2 (fun v => .cpx (.imm v)) ∧ Opcode2 0xE4 3 (fun d => .cpx (.zp d)) ∧
    Opcode3 0xEC 4 (fun w => .cpx (.abs w))) ∧
  (Opcode2 0xC0 2 (fun v => .cpy (.imm v)) ∧ Opcode2 0xC4 3 (fun d => .cpy (.zp d)) ∧
    Opcode3 0xCC 4 (fun w => .cpy (.abs w))) ∧
  (∀ (o : AluOperand) (s : State),
    exec (.cmp o) s = .next { s with
      p := compareFlags s.p s.a (operandByte s o.source)
      cycles := s.cycles + (operandCrossed s o.source).toNat
      device := (operandState s o.source).device
      bus := (operandState s o.source).bus }) ∧
  (∀ (o : CpOperand) (s : State),
    exec (.cpx o) s = .next { s with
      p := compareFlags s.p s.x (operandByte s o.source)
      device := (operandState s o.source).device
      bus := (operandState s o.source).bus }) ∧
  (∀ (o : CpOperand) (s : State),
    exec (.cpy o) s = .next { s with
      p := compareFlags s.p s.y (operandByte s o.source)
      device := (operandState s o.source).device
      bus := (operandState s o.source).bus })

/-- 44_bitwise.md R190, R191, R192. -/
def Obligations.LogicWritesA : Prop :=
  AluOpcodes .and 0x29 0x25 0x35 0x2D 0x3D 0x39 0x21 0x31 ∧
  AluOpcodes .ora 0x09 0x05 0x15 0x0D 0x1D 0x19 0x01 0x11 ∧
  AluOpcodes .eor 0x49 0x45 0x55 0x4D 0x5D 0x59 0x41 0x51 ∧
  LogicRule .and (fun a m => a &&& m) ∧ LogicRule .ora (fun a m => a ||| m) ∧ LogicRule .eor (fun a m => a ^^^ m)

/-- R193. -/
def Obligations.BitTestsWithoutWritingA : Prop :=
  (Opcode2 0x24 3 (fun d => .bit (.zp d)) ∧ Opcode3 0x2C 4 (fun w => .bit (.abs w))) ∧
  ∀ (o : BitOperand) (s : State),
    let m := operandByte s (.mem o.addr)
    exec (.bit o) s = .next { s with
      p := { s.p with z := decide (s.a &&& m = 0x00), n := m.getLsbD 7, v := m.getLsbD 6 }
      device := (operandState s (.mem o.addr)).device
      bus := (operandState s (.mem o.addr)).bus }

/-- 45_shift_rotate.md R200 to R204. That the old value is not written back is decision D10, log entry 17. -/
def Obligations.ShiftsAndRotatesMoveOneBit : Prop :=
  ShiftOpcodes .asl 0x0A 0x06 0x16 0x0E 0x1E ∧ ShiftOpcodes .lsr 0x4A 0x46 0x56 0x4E 0x5E ∧
  ShiftOpcodes .rol 0x2A 0x26 0x36 0x2E 0x3E ∧ ShiftOpcodes .ror 0x6A 0x66 0x76 0x6E 0x7E ∧
  ShiftRule .asl (fun v _ => 2 * v) (fun v => v.getLsbD 7) ∧
  ShiftRule .lsr (fun v _ => v / 2) (fun v => v.getLsbD 0) ∧
  ShiftRule .rol (fun v c => 2 * v + c) (fun v => v.getLsbD 7) ∧
  ShiftRule .ror (fun v c => v / 2 + 128 * c) (fun v => v.getLsbD 0)

/-- 46_inc_dec.md R210, R211. That the old value is not written back is decision D10, log entry 17. -/
def Obligations.IncDecStepMemory : Prop :=
  IncOpcodes .inc 0xE6 0xF6 0xEE 0xFE ∧ IncOpcodes .dec 0xC6 0xD6 0xCE 0xDE ∧
  ModifyRule .inc (fun v => v + 1) ∧ ModifyRule .dec (fun v => v + 255)

/-- R212 to R215. -/
def Obligations.IndexStepsAreModulo256 : Prop :=
  (Opcode1 0xE8 2 .inx ∧ Opcode1 0xCA 2 .dex ∧ Opcode1 0xC8 2 .iny ∧ Opcode1 0x88 2 .dey) ∧
  ∀ s : State,
    exec .inx s = .next { s with
      x := BitVec.ofNat 8 (s.x.toNat + 1), p := withNZ s.p (BitVec.ofNat 8 (s.x.toNat + 1)) } ∧
    exec .dex s = .next { s with
      x := BitVec.ofNat 8 (s.x.toNat + 255), p := withNZ s.p (BitVec.ofNat 8 (s.x.toNat + 255)) } ∧
    exec .iny s = .next { s with
      y := BitVec.ofNat 8 (s.y.toNat + 1), p := withNZ s.p (BitVec.ofNat 8 (s.y.toNat + 1)) } ∧
    exec .dey s = .next { s with
      y := BitVec.ofNat 8 (s.y.toNat + 255), p := withNZ s.p (BitVec.ofNat 8 (s.y.toNat + 255)) }

/-- 47_branches.md R220 to R229. What a page crossing of a branch is, and so the second cycle, is decision D9, log entry
18. -/
def Obligations.BranchesTestOneFlag : Prop :=
  (Opcode2 0x90 2 .bcc ∧ Opcode2 0xB0 2 .bcs ∧ Opcode2 0xD0 2 .bne ∧ Opcode2 0xF0 2 .beq ∧ Opcode2 0x10 2 .bpl ∧
    Opcode2 0x30 2 .bmi ∧ Opcode2 0x50 2 .bvc ∧ Opcode2 0x70 2 .bvs) ∧
  BranchRule .bcc (fun p => !p.c) ∧ BranchRule .bcs (fun p => p.c) ∧ BranchRule .bne (fun p => !p.z) ∧
  BranchRule .beq (fun p => p.z) ∧ BranchRule .bpl (fun p => !p.n) ∧ BranchRule .bmi (fun p => p.n) ∧
  BranchRule .bvc (fun p => !p.v) ∧ BranchRule .bvs (fun p => p.v)

/-- 48_jumps_interrupt_control.md R240. -/
def Obligations.JmpSetsPC : Prop :=
  (Opcode3 0x4C 3 (fun w => .jmp (.abs w)) ∧ Opcode3 0x6C 5 (fun w => .jmp (.ind w))) ∧
  ∀ (w : Word) (s : State),
    exec (.jmp (.abs w)) s = .next { s with pc := w } ∧
    (let next : Word := (w &&& 0xFF00) ||| ((w + 1) &&& 0x00FF)
     let lo := memRead s w
     let hi := memRead lo.2 next
     exec (.jmp (.ind w)) s = .next { s with pc := mkWord hi.1 lo.1, device := hi.2.device, bus := hi.2.bus } ∧
     (s.OnRam → exec (.jmp (.ind w)) s = .next { s with
       pc := mkWord (s.byteAt next) (s.byteAt w)
       bus := s.bus ++ [.read w (s.byteAt w), .read next (s.byteAt next)] }))

/-- R241. -/
def Obligations.JsrPushesLastByteAddress : Prop :=
  Opcode3 0x20 6 .jsr ∧
  ∀ (w : Word) (s : State), ∃ t, exec (.jsr w) s = .next t ∧
    t = { s with pc := w, sp := s.sp - 2, mem := t.mem, device := t.device, bus := t.bus } ∧
    BusEnds s t (memWrite (memWrite s (slot s.sp) (hiByte (s.pc - 1))) (slot (s.sp - 1)) (loByte (s.pc - 1)))
      (s.bus ++ [.write (slot s.sp) (hiByte (s.pc - 1)), .write (slot (s.sp - 1)) (loByte (s.pc - 1))]) ∧
    StoredWordOnStack s t s.sp (s.pc - 1)

/-- R242. -/
def Obligations.RtsReturnsPastPulledAddress : Prop :=
  Opcode1 0x60 6 .rts ∧
  ∀ s : State,
    let lo := memRead s (slot (s.sp + 1))
    let hi := memRead lo.2 (slot (s.sp + 2))
    exec .rts s = .next { s with
      pc := mkWord hi.1 lo.1 + 1, sp := s.sp + 2, device := hi.2.device, bus := hi.2.bus } ∧
    (s.OnRam → lo.1 = s.byteAt (slot (s.sp + 1)) ∧ hi.1 = s.byteAt (slot (s.sp + 2)) ∧
      BusEnds s hi.2 hi.2 (s.bus ++ [.read (slot (s.sp + 1)) lo.1, .read (slot (s.sp + 2)) hi.1]))

/-- R243. That the padding byte is not read is decision D18, the order of the vector reads D10, log entry 17. -/
def Obligations.BrkEntersThroughIrqVector : Prop :=
  Opcode1 0x00 7 .brk ∧
  ∀ s : State, ∃ t, exec .brk s = .next t ∧ Entered s t 0xFFFE true (s.pc + 1)

/-- R244. -/
def Obligations.RtiRestoresFlagsAndPC : Prop :=
  Opcode1 0x40 6 .rti ∧
  ∀ s : State,
    let p := memRead s (slot (s.sp + 1))
    let lo := memRead p.2 (slot (s.sp + 2))
    let hi := memRead lo.2 (slot (s.sp + 3))
    let v := p.1
    exec .rti s = .next { s with
      pc := mkWord hi.1 lo.1
      sp := s.sp + 3
      p := { n := v.getLsbD 7, v := v.getLsbD 6, d := v.getLsbD 3, i := v.getLsbD 2, z := v.getLsbD 1, c := v.getLsbD 0 }
      device := hi.2.device, bus := hi.2.bus } ∧
    (s.OnRam → v = s.byteAt (slot (s.sp + 1)) ∧ lo.1 = s.byteAt (slot (s.sp + 2)) ∧ hi.1 = s.byteAt (slot (s.sp + 3)) ∧
      BusEnds s hi.2 hi.2 (s.bus ++
        [.read (slot (s.sp + 1)) v, .read (slot (s.sp + 2)) lo.1, .read (slot (s.sp + 3)) hi.1]))

/-- 49_flags_nop_undefined.md R250 to R256, R258. -/
def Obligations.FlagSettersAndNop : Prop :=
  (Opcode1 0x18 2 .clc ∧ Opcode1 0x38 2 .sec ∧ Opcode1 0xD8 2 .cld ∧ Opcode1 0xF8 2 .sed ∧ Opcode1 0x58 2 .cli ∧
    Opcode1 0x78 2 .sei ∧ Opcode1 0xB8 2 .clv ∧ Opcode1 0xEA 2 .nop) ∧
  ∀ s : State,
    exec .clc s = .next { s with p := { s.p with c := false } } ∧
    exec .sec s = .next { s with p := { s.p with c := true } } ∧
    exec .cld s = .next { s with p := { s.p with d := false } } ∧
    exec .sed s = .next { s with p := { s.p with d := true } } ∧
    exec .cli s = .next { s with p := { s.p with i := false } } ∧
    exec .sei s = .next { s with p := { s.p with i := true } } ∧
    exec .clv s = .next { s with p := { s.p with v := false } } ∧
    exec .nop s = .next s

/-- R259, with 30_encoding.md R88: 105 bytes, of one byte and no cycle each; under STRICT_ILLEGAL only `status` differs
(decision D2, log entry 20). -/
def Obligations.UndefinedOpcodesDoNothing : Prop :=
  undefinedOpcodes.length = 105 ∧ undefinedOpcodes.Nodup ∧
  (∀ b, b ∈ undefinedOpcodes → Opcode1 b 0 (.undef b)) ∧
  ∀ (b : Byte) (s : State),
    (s.cfg.strictIllegal = false → exec (.undef b) s = .next s) ∧
    (s.cfg.strictIllegal = true → exec (.undef b) s = .next { s with status := .illegalOpcode b })

/-! ## The operand decoder, the flags, the stack, the memory -/

/-- 40_dispatch_and_operand_decoder.md R107 to R109 and R111 to R116: each mode's address, `crossed` bit and transactions, in
numbers; the decoder writes nothing but the transactions and the state of the bus. The operand bytes are arguments here,
fetched before (log entry 11); that there is no dummy read is decision D10, log entry 17. -/
def Obligations.DecoderFormsEffectiveAddresses : Prop :=
  ∀ s : State,
    (∀ d : Byte,
      (locate s (.zp d)).addr.toNat = d.toNat ∧
      (locate s (.zpx d)).addr.toNat = (d.toNat + s.x.toNat) % 256 ∧
      (locate s (.zpy d)).addr.toNat = (d.toNat + s.y.toNat) % 256 ∧
      (locate s (.zp d)).crossed = false ∧ (locate s (.zpx d)).crossed = false ∧ (locate s (.zpy d)).crossed = false ∧
      (locate s (.zp d)).state = s ∧ (locate s (.zpx d)).state = s ∧ (locate s (.zpy d)).state = s) ∧
    (∀ w : Word,
      (locate s (.abs w)).addr = w ∧
      (locate s (.abx w)).addr.toNat = (w.toNat + s.x.toNat) % 65536 ∧
      (locate s (.aby w)).addr.toNat = (w.toNat + s.y.toNat) % 65536 ∧
      (locate s (.abs w)).crossed = false ∧
      (locate s (.abx w)).crossed = decide (w.toNat % 256 + s.x.toNat > 0xFF) ∧
      (locate s (.aby w)).crossed = decide (w.toNat % 256 + s.y.toNat > 0xFF) ∧
      (locate s (.abs w)).state = s ∧ (locate s (.abx w)).state = s ∧ (locate s (.aby w)).state = s) ∧
    (∀ w : Word,
      let hiAddr := BitVec.ofNat 16 (if w.toNat % 256 = 0xFF then w.toNat - 0xFF else w.toNat + 1)
      let lo := memRead s w
      let hi := memRead lo.2 hiAddr
      (locate s (.ind w)).addr.toNat = lo.1.toNat + 256 * hi.1.toNat ∧
      (locate s (.ind w)).crossed = false ∧
      (locate s (.ind w)).state = { s with device := hi.2.device, bus := hi.2.bus }) ∧
    (∀ d : Byte,
      let lo := memRead s (BitVec.ofNat 16 ((d.toNat + s.x.toNat) % 256))
      let hi := memRead lo.2 (BitVec.ofNat 16 ((d.toNat + s.x.toNat + 1) % 256))
      (locate s (.izx d)).addr.toNat = lo.1.toNat + 256 * hi.1.toNat ∧
      (locate s (.izx d)).crossed = false ∧
      (locate s (.izx d)).state = { s with device := hi.2.device, bus := hi.2.bus }) ∧
    (∀ d : Byte,
      let lo := memRead s (BitVec.ofNat 16 d.toNat)
      let hi := memRead lo.2 (BitVec.ofNat 16 ((d.toNat + 1) % 256))
      (locate s (.izy d)).addr.toNat = (lo.1.toNat + 256 * hi.1.toNat + s.y.toNat) % 65536 ∧
      (locate s (.izy d)).crossed = decide (lo.1.toNat + s.y.toNat > 0xFF) ∧
      (locate s (.izy d)).state = { s with device := hi.2.device, bus := hi.2.bus }) ∧
    (s.OnRam →
      (∀ w : Word,
        let hiAddr := BitVec.ofNat 16 (if w.toNat % 256 = 0xFF then w.toNat - 0xFF else w.toNat + 1)
        (locate s (.ind w)).addr.toNat = (s.byteAt w).toNat + 256 * (s.byteAt hiAddr).toNat ∧
        (locate s (.ind w)).crossed = false ∧
        (locate s (.ind w)).state = { s with bus := s.bus ++ [.read w (s.byteAt w), .read hiAddr (s.byteAt hiAddr)] }) ∧
      (∀ d : Byte,
        let lo := BitVec.ofNat 16 ((d.toNat + s.x.toNat) % 256)
        let hi := BitVec.ofNat 16 ((d.toNat + s.x.toNat + 1) % 256)
        (locate s (.izx d)).addr.toNat = (s.byteAt lo).toNat + 256 * (s.byteAt hi).toNat ∧
        (locate s (.izx d)).crossed = false ∧
        (locate s (.izx d)).state = { s with bus := s.bus ++ [.read lo (s.byteAt lo), .read hi (s.byteAt hi)] }) ∧
      (∀ d : Byte,
        let lo := BitVec.ofNat 16 d.toNat
        let hi := BitVec.ofNat 16 ((d.toNat + 1) % 256)
        (locate s (.izy d)).addr.toNat = ((s.byteAt lo).toNat + 256 * (s.byteAt hi).toNat + s.y.toNat) % 65536 ∧
        (locate s (.izy d)).crossed = decide ((s.byteAt lo).toNat + s.y.toNat > 0xFF) ∧
        (locate s (.izy d)).state = { s with bus := s.bus ++ [.read lo (s.byteAt lo), .read hi (s.byteAt hi)] }))

/-- R106, R117. -/
def Obligations.LoadOperandReadsOneByte : Prop :=
  (∀ (v : Byte) (s : State), load s (.imm v) = { value := v, crossed := false, state := s }) ∧
  (∀ (o : AddrOperand) (s : State),
    load s (.mem o) =
      { value := operandByte s (.mem o)
        crossed := (locate s o).crossed
        state := { s with device := (operandState s (.mem o)).device, bus := (operandState s (.mem o)).bus } }) ∧
  (∀ (o : AddrOperand) (s : State), s.OnRam →
    load s (.mem o) =
      { value := s.byteAt (locate s o).addr
        crossed := (locate s o).crossed
        state := { s with
          bus := (locate s o).state.bus ++ [.read (locate s o).addr (s.byteAt (locate s o).addr)] } })

/-- 41_flag_and_stack_primitives.md R131 to R134, for the sums that ADC makes of M and SBC of the complement of M: carry is
unsigned overflow, and no borrow in a subtraction (the spec's inference in R132); V is signed overflow. -/
def Obligations.CarryAndOverflowMeanRange : Prop :=
  ∀ (a m : Byte) (cin : Bool),
    (sumResult a m cin).toNat = (a.toNat + m.toNat + cin.toNat) % 256 ∧
    (sumCarry a m cin = true ↔ a.toNat + m.toNat + cin.toNat > 255) ∧
    (sumOverflow a m cin = true ↔
      ¬ (-128 ≤ a.toInt + m.toInt + (cin.toNat : Int) ∧ a.toInt + m.toInt + (cin.toNat : Int) ≤ 127)) ∧
    (((sumResult a (~~~ m) cin).toNat : Int) = ((a.toNat : Int) - m.toNat - (1 - cin.toNat)) % 256) ∧
    (sumCarry a (~~~ m) cin = true ↔ a.toNat + cin.toNat ≥ m.toNat + 1) ∧
    (sumOverflow a (~~~ m) cin = true ↔
      ¬ (-128 ≤ a.toInt - m.toInt - (1 - (cin.toNat : Int)) ∧ a.toInt - m.toInt - (1 - (cin.toNat : Int)) ≤ 127))

/-- R147: ADC #m with carry-in c, then SBC #m with carry-in 1 - c, restores A; after the pair C is 1 iff the ADC produced no
carry out. The law is the spec's inference from R131 to R134; D does not matter by decision D1, log entry 14. -/
def Obligations.SbcUndoesAdcWithInvertedCarry : Prop :=
  ∀ (m : Byte) (s t u : State),
    exec (.adc (.imm m)) s = .next t →
    exec (.sbc (.imm m)) { t with p := { t.p with c := !s.p.c } } = .next u →
    u.a = s.a ∧ (u.p.c = true ↔ s.a.toNat + m.toNat + s.p.c.toNat ≤ 255)

/-- R138, R139. B and bit 5 are no storage: decision D4, log entry 3. -/
def Obligations.PackedStatusLayout : Prop :=
  (∀ (p : Flags) (b : Bool),
    (packP p b).toNat = p.n.toNat * 128 + p.v.toNat * 64 + 32 + b.toNat * 16 + p.d.toNat * 8 + p.i.toNat * 4
      + p.z.toNat * 2 + p.c.toNat) ∧
  (∀ v : Byte,
    unpackP v =
      { n := v.getLsbD 7, v := v.getLsbD 6, d := v.getLsbD 3, i := v.getLsbD 2, z := v.getLsbD 1, c := v.getLsbD 0 }) ∧
  (∀ (p : Flags) (b : Bool), unpackP (packP p b) = p)

/-- R136, R137, R140, R141 and 10_state.md R23. -/
def Obligations.StackPrimitivesStayInPageOne : Prop :=
  (∀ (s : State) (v : Byte),
    let t := push8 s v
    t = { s with sp := s.sp - 1, mem := t.mem, device := t.device, bus := t.bus } ∧
    BusEnds s t (memWrite s (slot s.sp) v) (s.bus ++ [.write (slot s.sp) v]) ∧
    StoredByte s t (slot s.sp) v) ∧
  (∀ s : State,
    let r := memRead s (slot (s.sp + 1))
    pull8 s = (r.1, { s with sp := s.sp + 1, device := r.2.device, bus := r.2.bus }) ∧
    (s.OnRam → pull8 s = (s.byteAt (slot (s.sp + 1)),
      { s with sp := s.sp + 1, bus := s.bus ++ [.read (slot (s.sp + 1)) (s.byteAt (slot (s.sp + 1)))] }))) ∧
  (∀ (s : State) (w : Word),
    let t := push16 s w
    t = { s with sp := s.sp - 2, mem := t.mem, device := t.device, bus := t.bus } ∧
    BusEnds s t (memWrite (memWrite s (slot s.sp) (hiByte w)) (slot (s.sp - 1)) (loByte w))
      (s.bus ++ [.write (slot s.sp) (hiByte w), .write (slot (s.sp - 1)) (loByte w)]) ∧
    StoredWordOnStack s t s.sp w) ∧
  (∀ s : State,
    let lo := memRead s (slot (s.sp + 1))
    let hi := memRead lo.2 (slot (s.sp + 2))
    pull16 s = (mkWord hi.1 lo.1, { s with sp := s.sp + 2, device := hi.2.device, bus := hi.2.bus }) ∧
    (s.OnRam → lo.1 = s.byteAt (slot (s.sp + 1)) ∧ hi.1 = s.byteAt (slot (s.sp + 2)) ∧
      BusEnds s hi.2 hi.2 (s.bus ++ [.read (slot (s.sp + 1)) lo.1, .read (slot (s.sp + 2)) hi.1]))) ∧
  (∀ sp : Byte, (slot sp).toNat = 0x0100 + sp.toNat)

/-- R142 with the default memory: a pull after a push returns what was pushed and restores SP, for a byte, for a word across
the wrap, for PHA and PLA and for PHP and PLP. The laws are the spec's inference from R136 to R141. -/
def Obligations.PullUndoesPush : Prop :=
  (∀ (s : State) (v : Byte), s.OnRam → (pull8 (push8 s v)).1 = v ∧ (pull8 (push8 s v)).2.sp = s.sp) ∧
  (∀ (s : State) (w : Word), s.OnRam → (pull16 (push16 s w)).1 = w ∧ (pull16 (push16 s w)).2.sp = s.sp) ∧
  (∀ (s t : State) (other : Byte), s.OnRam → exec .pha s = .next t →
    ∃ u, exec .pla { t with a := other } = .next u ∧ u.a = s.a ∧ u.sp = s.sp) ∧
  (∀ (s t : State) (other : Flags), s.OnRam → exec .php s = .next t →
    ∃ u, exec .plp { t with p := other } = .next u ∧ u.p = s.p ∧ u.sp = s.sp)

/-- R241, R242, R245: RTS after JSR resumes at the byte after the JSR with SP restored, over the default memory, if the
stack bytes and SP are as the JSR left them. -/
def Obligations.RtsUndoesJsr : Prop :=
  ∀ (w : Word) (s t : State), s.OnRam → exec (.jsr w) s = .next t →
    ∀ (t' : State), t'.OnRam → t'.sp = t.sp → t'.byteAt (slot s.sp) = t.byteAt (slot s.sp) →
      t'.byteAt (slot (s.sp - 1)) = t.byteAt (slot (s.sp - 1)) →
      ∃ u, exec .rts t' = .next u ∧ u.pc = s.pc ∧ u.sp = s.sp

/-- 20_memory.md R50, R52, R53, R70: the two bus operations. Where the default memory serves the address, a write sets its
byte and no other and a read changes only the list of transactions; where the substituted pair serves it, the byte, the state
of the bus and the failure are what the pair answers, and the default memory is as before. Over either the canonical form is
kept. The canonical form and the list are the model's, log entries 2 and 8, the state of the bus log entry 21. -/
def Obligations.MemoryIsReadAfterWrite : Prop :=
  (∀ (s : State) (a b : Word) (v : Byte), s.cfg.substitutes a = false →
    (memWrite s a v).byteAt b = if b = a then v else s.byteAt b) ∧
  (∀ (s : State) (a : Word) (v : Byte), Memory.wf s.mem = true → Memory.wf (memWrite s a v).mem = true) ∧
  (∀ (s : State) (a : Word) (v : Byte), s.cfg.substitutes a = false →
    memRead s a = (s.byteAt a, { s with bus := s.bus ++ [.read a (s.byteAt a)] }) ∧
    memWrite s a v = { s with mem := (memWrite s a v).mem, bus := s.bus ++ [.write a v] }) ∧
  (∀ (s : State) (a : Word) (v : Byte), s.cfg.substitutes a = true →
    (let r := Config.busRead s.device a
     memRead s a = (r.value,
       { s with device := r.device, bus := s.bus ++ [if r.failed then .failed a else .read a r.value] })) ∧
    (let r := Config.busWrite s.device a v
     memWrite s a v =
       { s with device := r.device, bus := s.bus ++ [if r.failed then .failed a else .write a v] }))

/-- The canonical form of the memory: two memories in it that read alike at every address are equal. The form is the
model's, log entry 2. -/
def Obligations.CanonicalMemoriesAreExtensional : Prop :=
  ∀ m m' : Memory, Memory.wf m = true → Memory.wf m' = true →
    (∀ a : Word, Memory.read m a.toNat = Memory.read m' a.toNat) → m = m'

/-- 20_memory.md R54, R55: the byte at the first address is the low one and is read first. That
it is read first is decision D10, log entry 17. -/
def Obligations.WordsAreLittleEndian : Prop :=
  ∀ (s : State) (a b : Word),
    let lo := memRead s a
    let hi := memRead lo.2 b
    (readWord s a b).1.toNat = lo.1.toNat + 256 * hi.1.toNat ∧
    (readWord s a b).2 = { s with device := hi.2.device, bus := hi.2.bus } ∧
    (s.OnRam →
      (readWord s a b).1.toNat = (s.byteAt a).toNat + 256 * (s.byteAt b).toNat ∧
      (readWord s a b).2 = { s with bus := s.bus ++ [.read a (s.byteAt a), .read b (s.byteAt b)] })

/-! ## The encoding -/

/-- 30_encoding.md R85: the ten opcode bytes the source's own scenarios confirm, with operand bytes written out. -/
def Obligations.ConfirmedOpcodesDecode : Prop :=
  decode [0xA9, 0x42] = .ok (.lda (.imm 0x42), []) ∧
  decode [0x85, 0x10] = .ok (.sta (.zp 0x10), []) ∧
  decode [0x69, 0x20] = .ok (.adc (.imm 0x20), []) ∧
  decode [0xC9, 0x42] = .ok (.cmp (.imm 0x42), []) ∧
  decode [0xCA] = .ok (.dex, []) ∧
  decode [0xD0, 0xFD] = .ok (.bne 0xFD, []) ∧
  decode [0x20, 0x06, 0x00] = .ok (.jsr 0x0006, []) ∧
  decode [0x60] = .ok (.rts, []) ∧
  decode [0x08] = .ok (.php, []) ∧
  decode [0x28] = .ok (.plp, [])

/-- R80, R82, R84: decoding what an instruction is encoded as gives the instruction and the bytes after it, for every
well-formed instruction with every operand. -/
def Obligations.DecodeInvertsEncode : Prop :=
  ∀ i : Instr, i.wellFormed = true → ∀ rest, decode (encode i ++ rest) = .ok (i, rest)

/-- R80, R81, R89, R101: decoding is total on three bytes, gives well-formed instructions only, drops no bit of the bytes it
takes, and takes as many as the mode says. -/
def Obligations.DecodeIsTotalAndExact : Prop :=
  (∀ (b0 b1 b2 : Byte) (rest : List Byte), ∃ i rest', decode (b0 :: b1 :: b2 :: rest) = .ok (i, rest')) ∧
  (∀ (bytes : List Byte) (i : Instr) (rest : List Byte), decode bytes = .ok (i, rest) →
    i.wellFormed = true ∧ bytes = encode i ++ rest ∧ (encode i).length = 1 + i.mode.operandBytes)

/-! ## The step -/

/-- 40_dispatch_and_operand_decoder.md R100, R102: a step from a started, not halted state samples the interrupts with the
outputs cleared, and then runs the instruction that the bytes at PC decode to, PC past its bytes, its base count charged and
its bytes fetched once each in order; where no interrupt is taken, that is the instruction at the PC of `s` itself. Over any
bus the bytes are those the bus answers to as many fetches as the instruction has bytes, and a failed access ends the step
(BusFaultEndsTheStep, 20_memory.md R70; which accesses fail is the model's, log entries 6 and 21). That the sampling and the
instruction are one step is decision D7, log entry 15; the operand bytes are fetched before the meaning runs, log entry 11. -/
def Obligations.StepRunsTheDecodedInstruction : Prop :=
  ∀ (s : State) (i : Instr) (rest : List Byte), s.started = true → s.haltReq = false →
    (let e := sampleInterrupts { s with cycles := 0, status := .ok, bus := [] }
     let f := fetched i.length e
     decode f.1 = .ok (i, []) → step s = failAtBus (exec i { f.2 with cycles := e.cycles + baseCycles i })) ∧
    (let e := sampleInterrupts { s with cycles := 0, status := .ok, bus := [] }
     s.OnDefaultBus → decode (bytesAtPC e) = .ok (i, rest) → step s = runFrom e i) ∧
    (s.OnDefaultBus → NoEntry s → decode (bytesAtPC s) = .ok (i, rest) →
      step s = exec i { s with
        pc := s.pc + BitVec.ofNat 16 i.length, cycles := baseCycles i, status := .ok, bus := fetches s i.length })

/-- 60_exceptions.md R276, R278: NMI first whatever I is, an IRQ only when I is 0, one entry at most; the taken latch is
cleared and the other kept; the return address is PC at the start of the step. The latches, the order and the cycles of
the entry are the spec's decisions D5, D6 and D8, log entry 15; R278 is its inference. -/
def Obligations.InterruptSamplingPriority : Prop :=
  ∀ s : State,
    (s.nmiPending = true →
      ∃ e, Entered { s with nmiPending := false } e 0xFFFA false s.pc ∧
        sampleInterrupts s = { e with cycles := s.cycles + s.cfg.intEntryCycles }) ∧
    (s.nmiPending = false → s.irqPending = true → s.p.i = false →
      ∃ e, Entered { s with irqPending := false } e 0xFFFE false s.pc ∧
        sampleInterrupts s = { e with cycles := s.cycles + s.cfg.intEntryCycles }) ∧
    (NoEntry s → sampleInterrupts s = s)

/-- R277, R280: the entry pushes PC high, PC low and P, sets I and loads PC from the vector, for the NMI and the IRQ vector
and either value of bit 4. The order of the vector reads is decision D10, log entry 17. -/
def Obligations.InterruptEntryFrame : Prop :=
  ∀ (s : State) (b : Bool),
    Entered s (interruptEntry s 0xFFFA b) 0xFFFA b s.pc ∧ Entered s (interruptEntry s 0xFFFE b) 0xFFFE b s.pc

/-- R281: over the default memory a return from an exception undoes its entry: PC, SP and the flags are those at the entry;
after a BRK, RTI resumes at the BRK's address plus 2. -/
def Obligations.RtiUndoesInterruptEntry : Prop :=
  (∀ (s : State) (b : Bool) (vec : Word), s.OnRam →
    ∃ u, exec .rti (interruptEntry s vec b) = .next u ∧ u.pc = s.pc ∧ u.sp = s.sp ∧ u.p = s.p ∧
      u.a = s.a ∧ u.x = s.x ∧ u.y = s.y) ∧
  (∀ s t : State, s.OnRam → exec .brk s = .next t →
    ∃ u, exec .rti t = .next u ∧ u.pc = s.pc + 1 ∧ u.sp = s.sp ∧ u.p = s.p)

/-- R284: a step with `halt_req` at 1 changes no state; it reports 0 cycles and HaltRequested and makes no transaction.
Decision D12, log entry 19. -/
def Obligations.HaltedStepChangesNothing : Prop :=
  ∀ s : State, s.started = true → s.haltReq = true →
    step s = .next { s with cycles := 0, status := .haltRequested, bus := [] }

/-- R270, R259: the status of every step that ends in a next state. OK is decision D22, log entry 20, HaltRequested D12, log
entry 19. -/
def Obligations.StepStatus : Prop :=
  ∀ s t : State, step s = .next t →
    t.status =
      if s.haltReq then .haltRequested
      else statusOf s.cfg.strictIllegal (fetchInstr (sampleInterrupts { s with cycles := 0, status := .ok, bus := [] })).1

/-- 70_reset_and_hazards.md R318, R319, R320: `cycles` is entry, base and penalty; 0 when halted. The
spec's decisions D8, D9 and D17, log entries 4, 15 and 18. -/
def Obligations.StepCycles : Prop :=
  ∀ s t : State, step s = .next t →
    t.cycles =
      if s.haltReq then 0
      else
        let e := sampleInterrupts { s with cycles := 0, status := .ok, bus := [] }
        let r := fetchInstr e
        (if s.nmiPending || (s.irqPending && !s.p.i) then s.cfg.intEntryCycles else 0) + baseCycles r.1 + penalty r.1 r.2

/-- 10_state.md R43, 70_reset_and_hazards.md R322: no step reads the outputs that the last one left. -/
def Obligations.StepReadsNoOutput : Prop :=
  ∀ (s : State) (k : Nat) (st : Status) (l : List BusAccess),
    step { s with cycles := k, status := st, bus := l } = step s

/-- 20_memory.md R70, 60_exceptions.md R279, R283: a step ends in BusFault of the address of the first transaction that fails,
among those it makes one after another, and in the state they leave where none fails; so over an adapter that fails at some
addresses it does what it would over one that does not, up to the first of them. The addresses at which an adapter fails are
the model's, log entry 6, the failure of a substituted bus is log entry 21. -/
def Obligations.BusFaultEndsTheStep : Prop :=
  (∀ s : State, s.started = true → s.haltReq = false →
    let r := fetchInstr (sampleInterrupts { s with cycles := 0, status := .ok, bus := [] })
    ∃ u, exec r.1 { r.2 with cycles := r.2.cycles + baseCycles r.1 } = .next u ∧
      ((∀ acc ∈ u.bus, ¬ FailsAt s.cfg acc) → step s = .next u) ∧
      (∀ pre acc post, u.bus = pre ++ acc :: post → (∀ x ∈ pre, ¬ FailsAt s.cfg x) → FailsAt s.cfg acc →
        step s = .fault (.busFault acc.addr))) ∧
  (∀ s t : State, step { s with cfg := { s.cfg with failingAddrs := [] } } = .next t →
    ((∀ acc ∈ t.bus, ¬ FailsAt s.cfg acc) → step s = .next { t with cfg := s.cfg }) ∧
    (∀ pre acc post, t.bus = pre ++ acc :: post → (∀ x ∈ pre, ¬ FailsAt s.cfg x) → FailsAt s.cfg acc →
      step s = .fault (.busFault acc.addr)))

/-- 20_memory.md R67: a store to the address the next fetch reads is what it reads, where the default memory serves it. The
spec's inference. -/
def Obligations.StoreIsSeenByNextFetch : Prop :=
  ∀ (o : StaOperand) (s t : State), exec (.sta o) s = .next t → (locate s o.addr).addr = s.pc →
    s.cfg.substitutes s.pc = false →
    (fetch8 t).1 = s.a ∧ (fetch8 t).2.pc = s.pc + 1

/-! ## Reset, requests, the environment -/

/-- 70_reset_and_hazards.md R300, R302, R303: from any state, also before the first reset. C, Z, V, N and the latches are the
spec's decisions D3 and D13, log entry 13; the order of the two reads is D10, log entry 17. The rest is the model's choice,
no rule of the spec: that the event ends in BusFault where a vector read fails, for which the rules of reset name no failure
(20_memory.md R70 speaks of a step), log entry 6, and of a substituted bus log entry 21; that `cycles` and `status` are as
before and the reads are kept as a list, log entry 8; that `halt_req` is as before, log entry 7, and the parameters, log entry
5; that the event leaves the state of a substituted bus to its two reads, log entry 21. -/
def Obligations.ResetSequenceValues : Prop :=
  ∀ s : State,
    (let lo := memRead { s with bus := [] } 0xFFFC
     let hi := memRead lo.2 0xFFFD
     applyEvent .reset s = failAtBus (.next { s with
      pc := mkWord hi.1 lo.1
      sp := 0xFD, a := 0x00, x := 0x00, y := 0x00
      p := { n := false, v := false, d := false, i := true, z := false, c := false }
      irqPending := false, nmiPending := false, started := true, device := hi.2.device, bus := hi.2.bus })) ∧
    (s.OnDefaultBus → applyEvent .reset s = .next { s with
      pc := mkWord (s.byteAt 0xFFFD) (s.byteAt 0xFFFC)
      sp := 0xFD, a := 0x00, x := 0x00, y := 0x00
      p := { n := false, v := false, d := false, i := true, z := false, c := false }
      irqPending := false, nmiPending := false, started := true
      bus := [.read 0xFFFC (s.byteAt 0xFFFC), .read 0xFFFD (s.byteAt 0xFFFD)] })

/-- R301 for the state after reset over the memory that lists nothing: SP, A, X, Y, I, D, C, Z, V, N and the latches as the
rule says, PC the word at the vector; and it is what the reset event gives from a constructed block with that memory. That
`cycles`, `status` and `halt_req` are 0, OK and 0 is the model's choice, log entries 7 and 8. C, Z, V, N and
the latches are the spec's decisions D3 and D13, log entry 13; the memory that lists nothing is log entry 2, the state of a
substituted bus log entry 21. -/
def Obligations.StateAfterReset : Prop :=
  State.reset.sp = 0xFD ∧ State.reset.a = 0x00 ∧ State.reset.x = 0x00 ∧ State.reset.y = 0x00 ∧
  State.reset.p = { n := false, v := false, d := false, i := true, z := false, c := false } ∧
  State.reset.irqPending = false ∧ State.reset.nmiPending = false ∧
  State.reset.pc = mkWord (State.reset.byteAt 0xFFFD) (State.reset.byteAt 0xFFFC) ∧
  applyEvent .reset (State.constructed Config.default []) = .next State.reset

/-- 10_state.md R42: before the first reset `step`, `irq_req` and `nmi_req` have no meaning, and `snapshot` has no value to
show; a constructed block is before its first reset. Decision D13, log entry 9. -/
def Obligations.NothingBeforeFirstReset : Prop :=
  (∀ s : State, s.started = false →
    applyEvent .step s = .refused .beforeFirstReset ∧ applyEvent .irqReq s = .refused .beforeFirstReset ∧
    applyEvent .nmiReq s = .refused .beforeFirstReset ∧ snapshot s = none) ∧
  (∀ (cfg : Config) (m : Memory), (State.constructed cfg m).started = false)

/-- 60_exceptions.md R274, R275: a request sets its latch and nothing else. The latches are decision D5,
log entry 15. -/
def Obligations.RequestsSetTheirLatch : Prop :=
  ∀ s : State, s.started = true →
    applyEvent .irqReq s = .next { s with irqPending := true } ∧
    applyEvent .nmiReq s = .next { s with nmiPending := true }

/-- 20_memory.md R52, R53, R64: the environment's change of a byte changes that byte only, and no other state; its change of
the state of a substituted bus changes that only; the level of `halt_req` is the environment's (decision D12). The events are
the model's, log entry 12, the state of the bus log entry 21. -/
def Obligations.EnvironmentChangesOnlyItsOwn : Prop :=
  (∀ (s : State) (a : Word) (v : Byte), ∃ t, applyEvent (.poke a v) s = .next t ∧ t = { s with mem := t.mem } ∧
    t.byteAt a = v ∧ ∀ b, b ≠ a → t.byteAt b = s.byteAt b) ∧
  (∀ (s : State) (d : List Nat), applyEvent (.setDevice d) s = .next { s with device := d }) ∧
  (∀ (s : State) (level : Bool), applyEvent (.setHalt level) s = .next { s with haltReq := level })

/-- 60_exceptions.md R288, 10_state.md R35: the snapshot shows the registers and flags, and B as 0. Decisions D21 and D4,
log entry 3. -/
def Obligations.SnapshotShowsRegisterFile : Prop :=
  ∀ s : State, s.started = true →
    snapshot s = some { pc := s.pc, sp := s.sp, a := s.a, x := s.x, y := s.y, c := s.p.c, z := s.p.z, i := s.p.i,
                        d := s.p.d, b := false, v := s.p.v, n := s.p.n }

/-- An instruction placed by `withFetchWord` is the one the next step runs, whatever the state (log entry 10). -/
def Obligations.PlacedInstructionRunsNext : Prop :=
  ∀ (s : State) (nbits w : Nat) (i : Instr), decodeTableWord nbits w = some i →
    step (s.withFetchWord nbits w) = exec i { s.withFetchWord nbits w with
      pc := s.pc + BitVec.ofNat 16 i.length
      cycles := baseCycles i
      status := .ok
      bus := fetches (s.withFetchWord nbits w) i.length }

/-! ## The whole machine -/

/-- 10_state.md R21, R22, R23, R27: a register changes only by an instruction that the rule names as a writer; an instruction
that is not a branch, a jump, a call, a return or BRK leaves PC past its bytes. The latches, the input `halt_req` and the
parameters are changed by none (R40, R41, decision D5; log entries 5, 7 and 15). -/
def Obligations.RegistersChangeOnlyByTheirWriters : Prop :=
  ∀ (i : Instr) (s : State), ∃ t, exec i s = .next t ∧
    (writesA i = false → t.a = s.a) ∧ (writesX i = false → t.x = s.x) ∧ (writesY i = false → t.y = s.y) ∧
    (writesSP i = false → t.sp = s.sp) ∧ (writesPC i = false → t.pc = s.pc) ∧
    t.irqPending = s.irqPending ∧ t.nmiPending = s.nmiPending ∧ t.haltReq = s.haltReq ∧ t.started = s.started ∧
    t.cfg = s.cfg

/-- R38: a flag changes only by an instruction that the table names for it; the table is the spec's inference from R150 to
R259. -/
def Obligations.FlagsChangeOnlyByTheirWriters : Prop :=
  ∀ (i : Instr) (s : State), ∃ t, exec i s = .next t ∧
    (writesNZ i = false → t.p.n = s.p.n ∧ t.p.z = s.p.z) ∧ (writesC i = false → t.p.c = s.p.c) ∧
    (writesV i = false → t.p.v = s.p.v) ∧ (writesD i = false → t.p.d = s.p.d) ∧ (writesI i = false → t.p.i = s.p.i)

/-- 20_memory.md R58, R61: no instruction stores to an address but those its rule names. -/
def Obligations.MemoryChangesOnlyWhereStored : Prop :=
  ∀ (i : Instr) (s : State), ∃ t, exec i s = .next t ∧ ∀ b : Word, b ∉ storedAddrs i s → t.byteAt b = s.byteAt b

/-- R40, R41: a latch is cleared in a step exactly when its interrupt is taken, and never set. Decisions D5, D6
and D12, log entries 15 and 19. -/
def Obligations.StepClearsLatchOnlyWhenTaken : Prop :=
  ∀ s t : State, step s = .next t →
    t.nmiPending = (s.nmiPending && s.haltReq) ∧
    t.irqPending = (s.irqPending && (s.haltReq || s.nmiPending || s.p.i))

/-- R34, 41_flag_and_stack_primitives.md R146: D is read by the pushes of P only. Every other instruction does the same
whatever D holds, and leaves D as it was or as it wrote it. Decision D1, log entry 14. -/
def Obligations.DecimalFlagIsOnlyPushed : Prop :=
  ∀ (i : Instr) (s t : State) (b : Bool), pushesP i = false → exec i s = .next t →
    exec i { s with p := { s.p with d := b } } =
      .next (if writesD i then t else { t with p := { t.p with d := b } })

/-- A good state stays good: after a step from it a reset has happened, the memory has its canonical form, and the status
output is `IllegalOpcode` only under STRICT_ILLEGAL and only for one of the 105 bytes. The
invariant is the model's, log entries 2, 8 and 9. -/
def Obligations.StepKeepsInvariant : Prop :=
  ∀ s t : State, s.Inv → step s = .next t → t.Inv

/-- The invariant at reset; it is the model's, log entries 2, 8 and 9. -/
def Obligations.ResetMeetsInvariant : Prop := State.reset.Inv

/-- 41_flag_and_stack_primitives.md R145, 70_reset_and_hazards.md R313: over the default memory, which never fails, no run of
events from a good state ends in a fault or a refusal, and it stays good; over any bus it ends in no refusal, in no fault but
BusFault, and stays good up to there. The events are the model's rendering of the ports, log entry 12, and the invariant log
entries 2, 8 and 9; which accesses fail, and that a reset ends in BusFault as a step does (20_memory.md R70), are the model's
choices, log entries 6 and 21. -/
def Obligations.NoRunOfEventsStops : Prop :=
  (∀ (events : List Event) (s : State), s.Inv → s.OnDefaultBus →
    ∃ t, runEvents events s = .next t ∧ t.Inv ∧ t.OnDefaultBus) ∧
  (∀ (events : List Event) (s : State), s.Inv →
    (∃ t, runEvents events s = .next t ∧ t.Inv) ∨ ∃ a, runEvents events s = .fault (.busFault a))
end

