-- ==== Sys2Proof/Laws/Decode.lean ====
section
/-! SUPPORT. Small lemmas about words and the opcode table. -/

namespace Sys2Proof

/-- `{h, l}` is `h * 256 + l` (00_scope.md R12). -/
theorem mkWord_toNat (h l : Byte) : (mkWord h l).toNat = h.toNat * 256 + l.toNat := by
  have hl := l.isLt
  have : (mkWord h l).toNat = h.toNat <<< 8 ||| l.toNat := BitVec.toNat_append ..
  rw [this, ← Nat.shiftLeft_add_eq_or_of_lt hl, Nat.shiftLeft_eq]

theorem hiByte_toNat (w : Word) : (hiByte w).toNat = w.toNat / 256 := by
  have hw := w.isLt
  simp only [hiByte, BitVec.extractLsb'_toNat, Nat.shiftRight_eq_div_pow]
  omega

theorem loByte_toNat (w : Word) : (loByte w).toNat = w.toNat % 256 := by
  simp [loByte, BitVec.extractLsb'_toNat]

@[simp] theorem mkWord_hi_lo (w : Word) : mkWord (hiByte w) (loByte w) = w := by
  apply BitVec.eq_of_toNat_eq
  rw [mkWord_toNat, hiByte_toNat, loByte_toNat]
  omega

@[simp] theorem hiByte_mkWord (h l : Byte) : hiByte (mkWord h l) = h := by
  have hl := l.isLt
  apply BitVec.eq_of_toNat_eq
  rw [hiByte_toNat, mkWord_toNat]
  omega

@[simp] theorem loByte_mkWord (h l : Byte) : loByte (mkWord h l) = l := by
  have hl := l.isLt
  apply BitVec.eq_of_toNat_eq
  rw [loByte_toNat, mkWord_toNat]
  omega

/-- `zext_16(v)` has the same value as `v` (00_scope.md R12). -/
theorem zext16_toNat (v : Byte) : (zext16 v).toNat = v.toNat := by
  have hv := v.isLt
  simp [zext16]
  omega

/-- Is the table's entry of a byte the undefined instruction of that byte. -/
def entryIsUndefined (b : Byte) : Bool :=
  match opcodeTable b with
  | .f1 i => decide (i = .undef b)
  | .f2 _ => false
  | .f3 _ => false

/-- An unassigned byte is an entry of format F1 that stands for itself (30_encoding.md R88). -/
theorem opcodeTable_undefined (b : Byte) (h : undefinedOpcodes.contains b = true) :
    opcodeTable b = .f1 (.undef b) := by
  have key : ∀ n : Fin 256, undefinedOpcodes.contains (BitVec.ofNat 8 n.val) = true →
      entryIsUndefined (BitVec.ofNat 8 n.val) = true := by decide +kernel
  have hb := key ⟨b.toNat, b.isLt⟩
  simp only [BitVec.ofNat_toNat, BitVec.setWidth_eq] at hb
  have := hb h
  unfold entryIsUndefined at this
  split at this
  · next hi => rw [hi, of_decide_eq_true this]
  · cases this
  · cases this

end Sys2Proof
end

