-- ==== Sys2Proof/Laws/Memory.lean ====
section
/-! SUPPORT. The laws of the memory: a read after a write, and that every operation keeps the canonical form. The read laws
hold of every list of cells, canonical or not. -/

namespace Sys2Proof.Machine

open Sys2Proof

/-- No cell of the list is at `a`. -/
def Memory.Absent (m : Memory) (a : Nat) : Prop := ∀ c ∈ m, c.1 ≠ a

theorem Memory.absent_cons {k a : Nat} {w : Byte} {rest : Memory} :
    Memory.Absent ((k, w) :: rest) a ↔ k ≠ a ∧ Memory.Absent rest a := by
  simp [Memory.Absent]

theorem Memory.absent_erase (m : Memory) (a : Nat) : Memory.Absent (Memory.erase m a) a := by
  induction m with
  | nil => simp [Memory.Absent, Memory.erase]
  | cons c rest ih =>
    obtain ⟨k, w⟩ := c
    by_cases hk : k = a
    · simpa [Memory.erase, hk] using ih
    · simpa [Memory.erase, hk, Memory.absent_cons] using ih

theorem Memory.read_absent (m : Memory) (a : Nat) (h : Memory.Absent m a) : Memory.read m a = unlistedByte := by
  induction m with
  | nil => rfl
  | cons c rest ih =>
    obtain ⟨k, w⟩ := c
    obtain ⟨hk, hr⟩ := Memory.absent_cons.mp h
    simp [Memory.read, hk, ih hr]

theorem Memory.read_erase_ne (m : Memory) (a b : Nat) (h : b ≠ a) :
    Memory.read (Memory.erase m a) b = Memory.read m b := by
  induction m with
  | nil => rfl
  | cons c rest ih =>
    obtain ⟨k, w⟩ := c
    by_cases hk : k = a
    · have hb : k ≠ b := fun e => h (e.symm.trans hk)
      simp only [Memory.erase, Memory.read, if_pos hk, if_neg hb, ih]
    · by_cases hb : k = b
      · simp [Memory.erase, Memory.read, hb, h]
      · simp [Memory.erase, Memory.read, hk, hb, ih]

theorem Memory.read_insert_same (m : Memory) (a : Nat) (v : Byte) (h : Memory.Absent m a) :
    Memory.read (Memory.insert m a v) a = v := by
  induction m with
  | nil => simp [Memory.insert, Memory.read]
  | cons c rest ih =>
    obtain ⟨k, w⟩ := c
    obtain ⟨hk, hr⟩ := Memory.absent_cons.mp h
    by_cases hlt : a < k <;> simp [Memory.insert, Memory.read, hlt, hk, ih hr]

theorem Memory.read_insert_ne (m : Memory) (a b : Nat) (v : Byte) (h : b ≠ a) :
    Memory.read (Memory.insert m a v) b = Memory.read m b := by
  induction m with
  | nil => simp [Memory.insert, Memory.read, h.symm]
  | cons c rest ih =>
    obtain ⟨k, w⟩ := c
    by_cases hlt : a < k <;> simp [Memory.insert, Memory.read, hlt, h.symm, ih]

/-- A read after a write to the same address gives the value written. -/
theorem Memory.read_write_same (m : Memory) (a : Nat) (v : Byte) : Memory.read (Memory.write m a v) a = v := by
  unfold Memory.write
  split
  · next h => rw [Memory.read_absent _ _ (Memory.absent_erase m a), h]
  · exact Memory.read_insert_same _ _ _ (Memory.absent_erase m a)

/-- A write leaves every other address alone. -/
theorem Memory.read_write_ne (m : Memory) (a b : Nat) (v : Byte) (h : b ≠ a) :
    Memory.read (Memory.write m a v) b = Memory.read m b := by
  unfold Memory.write
  split
  · exact Memory.read_erase_ne m a b h
  · rw [Memory.read_insert_ne _ _ _ _ h, Memory.read_erase_ne m a b h]

theorem Memory.wfFrom_cons {lo b : Nat} {v : Byte} {rest : Memory} :
    Memory.wfFrom lo ((b, v) :: rest) = true ↔
      lo ≤ b ∧ b < 65536 ∧ v ≠ unlistedByte ∧ Memory.wfFrom (b + 1) rest = true := by
  simp [Memory.wfFrom, and_assoc]

theorem Memory.wfFrom_mono {lo lo' : Nat} (m : Memory) (h : lo' ≤ lo) (hm : Memory.wfFrom lo m = true) :
    Memory.wfFrom lo' m = true := by
  cases m with
  | nil => rfl
  | cons c rest =>
    obtain ⟨b, v⟩ := c
    obtain ⟨h1, h2⟩ := Memory.wfFrom_cons.mp hm
    exact Memory.wfFrom_cons.mpr ⟨h.trans h1, h2⟩

theorem Memory.wfFrom_erase (m : Memory) (lo a : Nat) (hm : Memory.wfFrom lo m = true) :
    Memory.wfFrom lo (Memory.erase m a) = true := by
  induction m generalizing lo with
  | nil => rfl
  | cons c rest ih =>
    obtain ⟨b, v⟩ := c
    obtain ⟨h1, h2, h3, h4⟩ := Memory.wfFrom_cons.mp hm
    by_cases hb : b = a
    · simp only [Memory.erase, if_pos hb]
      exact Memory.wfFrom_mono _ (by omega) (ih _ h4)
    · simp only [Memory.erase, if_neg hb]
      exact Memory.wfFrom_cons.mpr ⟨h1, h2, h3, ih _ h4⟩

theorem Memory.wfFrom_insert (m : Memory) (lo a : Nat) (v : Byte) (hm : Memory.wfFrom lo m = true) (hlo : lo ≤ a)
    (ha : a < 65536) (hv : v ≠ unlistedByte) (habs : Memory.Absent m a) :
    Memory.wfFrom lo (Memory.insert m a v) = true := by
  induction m generalizing lo with
  | nil => exact Memory.wfFrom_cons.mpr ⟨hlo, ha, hv, rfl⟩
  | cons c rest ih =>
    obtain ⟨b, w⟩ := c
    obtain ⟨h1, h2, h3, h4⟩ := Memory.wfFrom_cons.mp hm
    obtain ⟨hb, hr⟩ := Memory.absent_cons.mp habs
    by_cases hlt : a < b
    · simp only [Memory.insert, if_pos hlt]
      exact Memory.wfFrom_cons.mpr ⟨hlo, ha, hv, Memory.wfFrom_cons.mpr ⟨by omega, h2, h3, h4⟩⟩
    · simp only [Memory.insert, if_neg hlt]
      exact Memory.wfFrom_cons.mpr ⟨h1, h2, h3, ih _ h4 (by omega) hr⟩

/-- Every write keeps the canonical form. -/
theorem Memory.wf_write (m : Memory) (a : Nat) (v : Byte) (ha : a < 65536) (hm : Memory.wf m = true) :
    Memory.wf (Memory.write m a v) = true := by
  unfold Memory.write Memory.wf
  split
  · exact Memory.wfFrom_erase m 0 a hm
  · next hv =>
    exact Memory.wfFrom_insert _ 0 a v (Memory.wfFrom_erase m 0 a hm) (Nat.zero_le a) ha hv
      (Memory.absent_erase m a)

end Sys2Proof.Machine
end

