-- ==== Sys2Proof/Laws/State.lean ====
section
/-! SUPPORT. One lemma per field per update of State, each true by rfl. -/

namespace Sys2Proof.Machine

open Sys2Proof

variable (s : State)

@[simp] theorem State.setFlagN_pc (b : Bool) : (s.setFlagN b).pc = s.pc := rfl
@[simp] theorem State.setFlagN_sp (b : Bool) : (s.setFlagN b).sp = s.sp := rfl
@[simp] theorem State.setFlagN_a (b : Bool) : (s.setFlagN b).a = s.a := rfl
@[simp] theorem State.setFlagN_x (b : Bool) : (s.setFlagN b).x = s.x := rfl
@[simp] theorem State.setFlagN_y (b : Bool) : (s.setFlagN b).y = s.y := rfl
@[simp] theorem State.setFlagN_p (b : Bool) : (s.setFlagN b).p = { s.p with n := b } := rfl
@[simp] theorem State.setFlagN_irqPending (b : Bool) : (s.setFlagN b).irqPending = s.irqPending := rfl
@[simp] theorem State.setFlagN_nmiPending (b : Bool) : (s.setFlagN b).nmiPending = s.nmiPending := rfl
@[simp] theorem State.setFlagN_mem (b : Bool) : (s.setFlagN b).mem = s.mem := rfl
@[simp] theorem State.setFlagN_device (b : Bool) : (s.setFlagN b).device = s.device := rfl
@[simp] theorem State.setFlagN_busRead (b : Bool) (q : Word) : (s.setFlagN b).busRead q = s.busRead q := rfl
@[simp] theorem State.setFlagN_busWrite (b : Bool) (q : Word) (u : Byte) : (s.setFlagN b).busWrite q u = s.busWrite q u := rfl
@[simp] theorem State.setFlagN_byteAt (b : Bool) (q : Word) : (s.setFlagN b).byteAt q = s.byteAt q := rfl
@[simp] theorem State.setFlagN_memAfterWrite (b : Bool) (q : Word) (u : Byte) :
    (s.setFlagN b).memAfterWrite q u = s.memAfterWrite q u := rfl
@[simp] theorem State.setFlagN_haltReq (b : Bool) : (s.setFlagN b).haltReq = s.haltReq := rfl
@[simp] theorem State.setFlagN_started (b : Bool) : (s.setFlagN b).started = s.started := rfl
@[simp] theorem State.setFlagN_cfg (b : Bool) : (s.setFlagN b).cfg = s.cfg := rfl
@[simp] theorem State.setFlagN_cycles (b : Bool) : (s.setFlagN b).cycles = s.cycles := rfl
@[simp] theorem State.setFlagN_status (b : Bool) : (s.setFlagN b).status = s.status := rfl
@[simp] theorem State.setFlagN_bus (b : Bool) : (s.setFlagN b).bus = s.bus := rfl

@[simp] theorem State.setFlagV_pc (b : Bool) : (s.setFlagV b).pc = s.pc := rfl
@[simp] theorem State.setFlagV_sp (b : Bool) : (s.setFlagV b).sp = s.sp := rfl
@[simp] theorem State.setFlagV_a (b : Bool) : (s.setFlagV b).a = s.a := rfl
@[simp] theorem State.setFlagV_x (b : Bool) : (s.setFlagV b).x = s.x := rfl
@[simp] theorem State.setFlagV_y (b : Bool) : (s.setFlagV b).y = s.y := rfl
@[simp] theorem State.setFlagV_p (b : Bool) : (s.setFlagV b).p = { s.p with v := b } := rfl
@[simp] theorem State.setFlagV_irqPending (b : Bool) : (s.setFlagV b).irqPending = s.irqPending := rfl
@[simp] theorem State.setFlagV_nmiPending (b : Bool) : (s.setFlagV b).nmiPending = s.nmiPending := rfl
@[simp] theorem State.setFlagV_mem (b : Bool) : (s.setFlagV b).mem = s.mem := rfl
@[simp] theorem State.setFlagV_device (b : Bool) : (s.setFlagV b).device = s.device := rfl
@[simp] theorem State.setFlagV_busRead (b : Bool) (q : Word) : (s.setFlagV b).busRead q = s.busRead q := rfl
@[simp] theorem State.setFlagV_busWrite (b : Bool) (q : Word) (u : Byte) : (s.setFlagV b).busWrite q u = s.busWrite q u := rfl
@[simp] theorem State.setFlagV_byteAt (b : Bool) (q : Word) : (s.setFlagV b).byteAt q = s.byteAt q := rfl
@[simp] theorem State.setFlagV_memAfterWrite (b : Bool) (q : Word) (u : Byte) :
    (s.setFlagV b).memAfterWrite q u = s.memAfterWrite q u := rfl
@[simp] theorem State.setFlagV_haltReq (b : Bool) : (s.setFlagV b).haltReq = s.haltReq := rfl
@[simp] theorem State.setFlagV_started (b : Bool) : (s.setFlagV b).started = s.started := rfl
@[simp] theorem State.setFlagV_cfg (b : Bool) : (s.setFlagV b).cfg = s.cfg := rfl
@[simp] theorem State.setFlagV_cycles (b : Bool) : (s.setFlagV b).cycles = s.cycles := rfl
@[simp] theorem State.setFlagV_status (b : Bool) : (s.setFlagV b).status = s.status := rfl
@[simp] theorem State.setFlagV_bus (b : Bool) : (s.setFlagV b).bus = s.bus := rfl

@[simp] theorem State.setFlagD_pc (b : Bool) : (s.setFlagD b).pc = s.pc := rfl
@[simp] theorem State.setFlagD_sp (b : Bool) : (s.setFlagD b).sp = s.sp := rfl
@[simp] theorem State.setFlagD_a (b : Bool) : (s.setFlagD b).a = s.a := rfl
@[simp] theorem State.setFlagD_x (b : Bool) : (s.setFlagD b).x = s.x := rfl
@[simp] theorem State.setFlagD_y (b : Bool) : (s.setFlagD b).y = s.y := rfl
@[simp] theorem State.setFlagD_p (b : Bool) : (s.setFlagD b).p = { s.p with d := b } := rfl
@[simp] theorem State.setFlagD_irqPending (b : Bool) : (s.setFlagD b).irqPending = s.irqPending := rfl
@[simp] theorem State.setFlagD_nmiPending (b : Bool) : (s.setFlagD b).nmiPending = s.nmiPending := rfl
@[simp] theorem State.setFlagD_mem (b : Bool) : (s.setFlagD b).mem = s.mem := rfl
@[simp] theorem State.setFlagD_device (b : Bool) : (s.setFlagD b).device = s.device := rfl
@[simp] theorem State.setFlagD_busRead (b : Bool) (q : Word) : (s.setFlagD b).busRead q = s.busRead q := rfl
@[simp] theorem State.setFlagD_busWrite (b : Bool) (q : Word) (u : Byte) : (s.setFlagD b).busWrite q u = s.busWrite q u := rfl
@[simp] theorem State.setFlagD_byteAt (b : Bool) (q : Word) : (s.setFlagD b).byteAt q = s.byteAt q := rfl
@[simp] theorem State.setFlagD_memAfterWrite (b : Bool) (q : Word) (u : Byte) :
    (s.setFlagD b).memAfterWrite q u = s.memAfterWrite q u := rfl
@[simp] theorem State.setFlagD_haltReq (b : Bool) : (s.setFlagD b).haltReq = s.haltReq := rfl
@[simp] theorem State.setFlagD_started (b : Bool) : (s.setFlagD b).started = s.started := rfl
@[simp] theorem State.setFlagD_cfg (b : Bool) : (s.setFlagD b).cfg = s.cfg := rfl
@[simp] theorem State.setFlagD_cycles (b : Bool) : (s.setFlagD b).cycles = s.cycles := rfl
@[simp] theorem State.setFlagD_status (b : Bool) : (s.setFlagD b).status = s.status := rfl
@[simp] theorem State.setFlagD_bus (b : Bool) : (s.setFlagD b).bus = s.bus := rfl

@[simp] theorem State.setFlagI_pc (b : Bool) : (s.setFlagI b).pc = s.pc := rfl
@[simp] theorem State.setFlagI_sp (b : Bool) : (s.setFlagI b).sp = s.sp := rfl
@[simp] theorem State.setFlagI_a (b : Bool) : (s.setFlagI b).a = s.a := rfl
@[simp] theorem State.setFlagI_x (b : Bool) : (s.setFlagI b).x = s.x := rfl
@[simp] theorem State.setFlagI_y (b : Bool) : (s.setFlagI b).y = s.y := rfl
@[simp] theorem State.setFlagI_p (b : Bool) : (s.setFlagI b).p = { s.p with i := b } := rfl
@[simp] theorem State.setFlagI_irqPending (b : Bool) : (s.setFlagI b).irqPending = s.irqPending := rfl
@[simp] theorem State.setFlagI_nmiPending (b : Bool) : (s.setFlagI b).nmiPending = s.nmiPending := rfl
@[simp] theorem State.setFlagI_mem (b : Bool) : (s.setFlagI b).mem = s.mem := rfl
@[simp] theorem State.setFlagI_device (b : Bool) : (s.setFlagI b).device = s.device := rfl
@[simp] theorem State.setFlagI_busRead (b : Bool) (q : Word) : (s.setFlagI b).busRead q = s.busRead q := rfl
@[simp] theorem State.setFlagI_busWrite (b : Bool) (q : Word) (u : Byte) : (s.setFlagI b).busWrite q u = s.busWrite q u := rfl
@[simp] theorem State.setFlagI_byteAt (b : Bool) (q : Word) : (s.setFlagI b).byteAt q = s.byteAt q := rfl
@[simp] theorem State.setFlagI_memAfterWrite (b : Bool) (q : Word) (u : Byte) :
    (s.setFlagI b).memAfterWrite q u = s.memAfterWrite q u := rfl
@[simp] theorem State.setFlagI_haltReq (b : Bool) : (s.setFlagI b).haltReq = s.haltReq := rfl
@[simp] theorem State.setFlagI_started (b : Bool) : (s.setFlagI b).started = s.started := rfl
@[simp] theorem State.setFlagI_cfg (b : Bool) : (s.setFlagI b).cfg = s.cfg := rfl
@[simp] theorem State.setFlagI_cycles (b : Bool) : (s.setFlagI b).cycles = s.cycles := rfl
@[simp] theorem State.setFlagI_status (b : Bool) : (s.setFlagI b).status = s.status := rfl
@[simp] theorem State.setFlagI_bus (b : Bool) : (s.setFlagI b).bus = s.bus := rfl

@[simp] theorem State.setFlagZ_pc (b : Bool) : (s.setFlagZ b).pc = s.pc := rfl
@[simp] theorem State.setFlagZ_sp (b : Bool) : (s.setFlagZ b).sp = s.sp := rfl
@[simp] theorem State.setFlagZ_a (b : Bool) : (s.setFlagZ b).a = s.a := rfl
@[simp] theorem State.setFlagZ_x (b : Bool) : (s.setFlagZ b).x = s.x := rfl
@[simp] theorem State.setFlagZ_y (b : Bool) : (s.setFlagZ b).y = s.y := rfl
@[simp] theorem State.setFlagZ_p (b : Bool) : (s.setFlagZ b).p = { s.p with z := b } := rfl
@[simp] theorem State.setFlagZ_irqPending (b : Bool) : (s.setFlagZ b).irqPending = s.irqPending := rfl
@[simp] theorem State.setFlagZ_nmiPending (b : Bool) : (s.setFlagZ b).nmiPending = s.nmiPending := rfl
@[simp] theorem State.setFlagZ_mem (b : Bool) : (s.setFlagZ b).mem = s.mem := rfl
@[simp] theorem State.setFlagZ_device (b : Bool) : (s.setFlagZ b).device = s.device := rfl
@[simp] theorem State.setFlagZ_busRead (b : Bool) (q : Word) : (s.setFlagZ b).busRead q = s.busRead q := rfl
@[simp] theorem State.setFlagZ_busWrite (b : Bool) (q : Word) (u : Byte) : (s.setFlagZ b).busWrite q u = s.busWrite q u := rfl
@[simp] theorem State.setFlagZ_byteAt (b : Bool) (q : Word) : (s.setFlagZ b).byteAt q = s.byteAt q := rfl
@[simp] theorem State.setFlagZ_memAfterWrite (b : Bool) (q : Word) (u : Byte) :
    (s.setFlagZ b).memAfterWrite q u = s.memAfterWrite q u := rfl
@[simp] theorem State.setFlagZ_haltReq (b : Bool) : (s.setFlagZ b).haltReq = s.haltReq := rfl
@[simp] theorem State.setFlagZ_started (b : Bool) : (s.setFlagZ b).started = s.started := rfl
@[simp] theorem State.setFlagZ_cfg (b : Bool) : (s.setFlagZ b).cfg = s.cfg := rfl
@[simp] theorem State.setFlagZ_cycles (b : Bool) : (s.setFlagZ b).cycles = s.cycles := rfl
@[simp] theorem State.setFlagZ_status (b : Bool) : (s.setFlagZ b).status = s.status := rfl
@[simp] theorem State.setFlagZ_bus (b : Bool) : (s.setFlagZ b).bus = s.bus := rfl

@[simp] theorem State.setFlagC_pc (b : Bool) : (s.setFlagC b).pc = s.pc := rfl
@[simp] theorem State.setFlagC_sp (b : Bool) : (s.setFlagC b).sp = s.sp := rfl
@[simp] theorem State.setFlagC_a (b : Bool) : (s.setFlagC b).a = s.a := rfl
@[simp] theorem State.setFlagC_x (b : Bool) : (s.setFlagC b).x = s.x := rfl
@[simp] theorem State.setFlagC_y (b : Bool) : (s.setFlagC b).y = s.y := rfl
@[simp] theorem State.setFlagC_p (b : Bool) : (s.setFlagC b).p = { s.p with c := b } := rfl
@[simp] theorem State.setFlagC_irqPending (b : Bool) : (s.setFlagC b).irqPending = s.irqPending := rfl
@[simp] theorem State.setFlagC_nmiPending (b : Bool) : (s.setFlagC b).nmiPending = s.nmiPending := rfl
@[simp] theorem State.setFlagC_mem (b : Bool) : (s.setFlagC b).mem = s.mem := rfl
@[simp] theorem State.setFlagC_device (b : Bool) : (s.setFlagC b).device = s.device := rfl
@[simp] theorem State.setFlagC_busRead (b : Bool) (q : Word) : (s.setFlagC b).busRead q = s.busRead q := rfl
@[simp] theorem State.setFlagC_busWrite (b : Bool) (q : Word) (u : Byte) : (s.setFlagC b).busWrite q u = s.busWrite q u := rfl
@[simp] theorem State.setFlagC_byteAt (b : Bool) (q : Word) : (s.setFlagC b).byteAt q = s.byteAt q := rfl
@[simp] theorem State.setFlagC_memAfterWrite (b : Bool) (q : Word) (u : Byte) :
    (s.setFlagC b).memAfterWrite q u = s.memAfterWrite q u := rfl
@[simp] theorem State.setFlagC_haltReq (b : Bool) : (s.setFlagC b).haltReq = s.haltReq := rfl
@[simp] theorem State.setFlagC_started (b : Bool) : (s.setFlagC b).started = s.started := rfl
@[simp] theorem State.setFlagC_cfg (b : Bool) : (s.setFlagC b).cfg = s.cfg := rfl
@[simp] theorem State.setFlagC_cycles (b : Bool) : (s.setFlagC b).cycles = s.cycles := rfl
@[simp] theorem State.setFlagC_status (b : Bool) : (s.setFlagC b).status = s.status := rfl
@[simp] theorem State.setFlagC_bus (b : Bool) : (s.setFlagC b).bus = s.bus := rfl

@[simp] theorem State.setNZ_pc (v : Byte) : (s.setNZ v).pc = s.pc := rfl
@[simp] theorem State.setNZ_sp (v : Byte) : (s.setNZ v).sp = s.sp := rfl
@[simp] theorem State.setNZ_a (v : Byte) : (s.setNZ v).a = s.a := rfl
@[simp] theorem State.setNZ_x (v : Byte) : (s.setNZ v).x = s.x := rfl
@[simp] theorem State.setNZ_y (v : Byte) : (s.setNZ v).y = s.y := rfl
@[simp] theorem State.setNZ_p (v : Byte) : (s.setNZ v).p = { s.p with n := v.getLsbD 7, z := v == 0x00 } := rfl
@[simp] theorem State.setNZ_irqPending (v : Byte) : (s.setNZ v).irqPending = s.irqPending := rfl
@[simp] theorem State.setNZ_nmiPending (v : Byte) : (s.setNZ v).nmiPending = s.nmiPending := rfl
@[simp] theorem State.setNZ_mem (v : Byte) : (s.setNZ v).mem = s.mem := rfl
@[simp] theorem State.setNZ_device (v : Byte) : (s.setNZ v).device = s.device := rfl
@[simp] theorem State.setNZ_busRead (v : Byte) (q : Word) : (s.setNZ v).busRead q = s.busRead q := rfl
@[simp] theorem State.setNZ_busWrite (v : Byte) (q : Word) (u : Byte) : (s.setNZ v).busWrite q u = s.busWrite q u := rfl
@[simp] theorem State.setNZ_byteAt (v : Byte) (q : Word) : (s.setNZ v).byteAt q = s.byteAt q := rfl
@[simp] theorem State.setNZ_memAfterWrite (v : Byte) (q : Word) (u : Byte) :
    (s.setNZ v).memAfterWrite q u = s.memAfterWrite q u := rfl
@[simp] theorem State.setNZ_haltReq (v : Byte) : (s.setNZ v).haltReq = s.haltReq := rfl
@[simp] theorem State.setNZ_started (v : Byte) : (s.setNZ v).started = s.started := rfl
@[simp] theorem State.setNZ_cfg (v : Byte) : (s.setNZ v).cfg = s.cfg := rfl
@[simp] theorem State.setNZ_cycles (v : Byte) : (s.setNZ v).cycles = s.cycles := rfl
@[simp] theorem State.setNZ_status (v : Byte) : (s.setNZ v).status = s.status := rfl
@[simp] theorem State.setNZ_bus (v : Byte) : (s.setNZ v).bus = s.bus := rfl

@[simp] theorem State.compare_pc (r m : Byte) : (s.compare r m).pc = s.pc := rfl
@[simp] theorem State.compare_sp (r m : Byte) : (s.compare r m).sp = s.sp := rfl
@[simp] theorem State.compare_a (r m : Byte) : (s.compare r m).a = s.a := rfl
@[simp] theorem State.compare_x (r m : Byte) : (s.compare r m).x = s.x := rfl
@[simp] theorem State.compare_y (r m : Byte) : (s.compare r m).y = s.y := rfl
@[simp] theorem State.compare_p (r m : Byte) :
    (s.compare r m).p = { s.p with n := (r - m).getLsbD 7, z := r == m, c := decide (m.toNat ≤ r.toNat) } := rfl
@[simp] theorem State.compare_irqPending (r m : Byte) : (s.compare r m).irqPending = s.irqPending := rfl
@[simp] theorem State.compare_nmiPending (r m : Byte) : (s.compare r m).nmiPending = s.nmiPending := rfl
@[simp] theorem State.compare_mem (r m : Byte) : (s.compare r m).mem = s.mem := rfl
@[simp] theorem State.compare_device (r m : Byte) : (s.compare r m).device = s.device := rfl
@[simp] theorem State.compare_busRead (r m : Byte) (q : Word) : (s.compare r m).busRead q = s.busRead q := rfl
@[simp] theorem State.compare_busWrite (r m : Byte) (q : Word) (u : Byte) : (s.compare r m).busWrite q u = s.busWrite q u := rfl
@[simp] theorem State.compare_byteAt (r m : Byte) (q : Word) : (s.compare r m).byteAt q = s.byteAt q := rfl
@[simp] theorem State.compare_memAfterWrite (r m : Byte) (q : Word) (u : Byte) :
    (s.compare r m).memAfterWrite q u = s.memAfterWrite q u := rfl
@[simp] theorem State.compare_haltReq (r m : Byte) : (s.compare r m).haltReq = s.haltReq := rfl
@[simp] theorem State.compare_started (r m : Byte) : (s.compare r m).started = s.started := rfl
@[simp] theorem State.compare_cfg (r m : Byte) : (s.compare r m).cfg = s.cfg := rfl
@[simp] theorem State.compare_cycles (r m : Byte) : (s.compare r m).cycles = s.cycles := rfl
@[simp] theorem State.compare_status (r m : Byte) : (s.compare r m).status = s.status := rfl
@[simp] theorem State.compare_bus (r m : Byte) : (s.compare r m).bus = s.bus := rfl

@[simp] theorem State.addToA_pc (m : Byte) : (s.addToA m).pc = s.pc := rfl
@[simp] theorem State.addToA_sp (m : Byte) : (s.addToA m).sp = s.sp := rfl
@[simp] theorem State.addToA_a (m : Byte) : (s.addToA m).a = sumResult s.a m s.p.c := rfl
@[simp] theorem State.addToA_x (m : Byte) : (s.addToA m).x = s.x := rfl
@[simp] theorem State.addToA_y (m : Byte) : (s.addToA m).y = s.y := rfl
@[simp] theorem State.addToA_p (m : Byte) :
    (s.addToA m).p = { s.p with
      n := (sumResult s.a m s.p.c).getLsbD 7, v := sumOverflow s.a m s.p.c
      z := sumResult s.a m s.p.c == 0x00, c := sumCarry s.a m s.p.c } := rfl
@[simp] theorem State.addToA_irqPending (m : Byte) : (s.addToA m).irqPending = s.irqPending := rfl
@[simp] theorem State.addToA_nmiPending (m : Byte) : (s.addToA m).nmiPending = s.nmiPending := rfl
@[simp] theorem State.addToA_mem (m : Byte) : (s.addToA m).mem = s.mem := rfl
@[simp] theorem State.addToA_device (m : Byte) : (s.addToA m).device = s.device := rfl
@[simp] theorem State.addToA_busRead (m : Byte) (q : Word) : (s.addToA m).busRead q = s.busRead q := rfl
@[simp] theorem State.addToA_busWrite (m : Byte) (q : Word) (u : Byte) : (s.addToA m).busWrite q u = s.busWrite q u := rfl
@[simp] theorem State.addToA_byteAt (m : Byte) (q : Word) : (s.addToA m).byteAt q = s.byteAt q := rfl
@[simp] theorem State.addToA_memAfterWrite (m : Byte) (q : Word) (u : Byte) :
    (s.addToA m).memAfterWrite q u = s.memAfterWrite q u := rfl
@[simp] theorem State.addToA_haltReq (m : Byte) : (s.addToA m).haltReq = s.haltReq := rfl
@[simp] theorem State.addToA_started (m : Byte) : (s.addToA m).started = s.started := rfl
@[simp] theorem State.addToA_cfg (m : Byte) : (s.addToA m).cfg = s.cfg := rfl
@[simp] theorem State.addToA_cycles (m : Byte) : (s.addToA m).cycles = s.cycles := rfl
@[simp] theorem State.addToA_status (m : Byte) : (s.addToA m).status = s.status := rfl
@[simp] theorem State.addToA_bus (m : Byte) : (s.addToA m).bus = s.bus := rfl

@[simp] theorem State.setA_pc (v : Byte) : (s.setA v).pc = s.pc := rfl
@[simp] theorem State.setA_sp (v : Byte) : (s.setA v).sp = s.sp := rfl
@[simp] theorem State.setA_a (v : Byte) : (s.setA v).a = v := rfl
@[simp] theorem State.setA_x (v : Byte) : (s.setA v).x = s.x := rfl
@[simp] theorem State.setA_y (v : Byte) : (s.setA v).y = s.y := rfl
@[simp] theorem State.setA_p (v : Byte) : (s.setA v).p = s.p := rfl
@[simp] theorem State.setA_irqPending (v : Byte) : (s.setA v).irqPending = s.irqPending := rfl
@[simp] theorem State.setA_nmiPending (v : Byte) : (s.setA v).nmiPending = s.nmiPending := rfl
@[simp] theorem State.setA_mem (v : Byte) : (s.setA v).mem = s.mem := rfl
@[simp] theorem State.setA_device (v : Byte) : (s.setA v).device = s.device := rfl
@[simp] theorem State.setA_busRead (v : Byte) (q : Word) : (s.setA v).busRead q = s.busRead q := rfl
@[simp] theorem State.setA_busWrite (v : Byte) (q : Word) (u : Byte) : (s.setA v).busWrite q u = s.busWrite q u := rfl
@[simp] theorem State.setA_byteAt (v : Byte) (q : Word) : (s.setA v).byteAt q = s.byteAt q := rfl
@[simp] theorem State.setA_memAfterWrite (v : Byte) (q : Word) (u : Byte) :
    (s.setA v).memAfterWrite q u = s.memAfterWrite q u := rfl
@[simp] theorem State.setA_haltReq (v : Byte) : (s.setA v).haltReq = s.haltReq := rfl
@[simp] theorem State.setA_started (v : Byte) : (s.setA v).started = s.started := rfl
@[simp] theorem State.setA_cfg (v : Byte) : (s.setA v).cfg = s.cfg := rfl
@[simp] theorem State.setA_cycles (v : Byte) : (s.setA v).cycles = s.cycles := rfl
@[simp] theorem State.setA_status (v : Byte) : (s.setA v).status = s.status := rfl
@[simp] theorem State.setA_bus (v : Byte) : (s.setA v).bus = s.bus := rfl

@[simp] theorem State.setX_pc (v : Byte) : (s.setX v).pc = s.pc := rfl
@[simp] theorem State.setX_sp (v : Byte) : (s.setX v).sp = s.sp := rfl
@[simp] theorem State.setX_a (v : Byte) : (s.setX v).a = s.a := rfl
@[simp] theorem State.setX_x (v : Byte) : (s.setX v).x = v := rfl
@[simp] theorem State.setX_y (v : Byte) : (s.setX v).y = s.y := rfl
@[simp] theorem State.setX_p (v : Byte) : (s.setX v).p = s.p := rfl
@[simp] theorem State.setX_irqPending (v : Byte) : (s.setX v).irqPending = s.irqPending := rfl
@[simp] theorem State.setX_nmiPending (v : Byte) : (s.setX v).nmiPending = s.nmiPending := rfl
@[simp] theorem State.setX_mem (v : Byte) : (s.setX v).mem = s.mem := rfl
@[simp] theorem State.setX_device (v : Byte) : (s.setX v).device = s.device := rfl
@[simp] theorem State.setX_busRead (v : Byte) (q : Word) : (s.setX v).busRead q = s.busRead q := rfl
@[simp] theorem State.setX_busWrite (v : Byte) (q : Word) (u : Byte) : (s.setX v).busWrite q u = s.busWrite q u := rfl
@[simp] theorem State.setX_byteAt (v : Byte) (q : Word) : (s.setX v).byteAt q = s.byteAt q := rfl
@[simp] theorem State.setX_memAfterWrite (v : Byte) (q : Word) (u : Byte) :
    (s.setX v).memAfterWrite q u = s.memAfterWrite q u := rfl
@[simp] theorem State.setX_haltReq (v : Byte) : (s.setX v).haltReq = s.haltReq := rfl
@[simp] theorem State.setX_started (v : Byte) : (s.setX v).started = s.started := rfl
@[simp] theorem State.setX_cfg (v : Byte) : (s.setX v).cfg = s.cfg := rfl
@[simp] theorem State.setX_cycles (v : Byte) : (s.setX v).cycles = s.cycles := rfl
@[simp] theorem State.setX_status (v : Byte) : (s.setX v).status = s.status := rfl
@[simp] theorem State.setX_bus (v : Byte) : (s.setX v).bus = s.bus := rfl

@[simp] theorem State.setY_pc (v : Byte) : (s.setY v).pc = s.pc := rfl
@[simp] theorem State.setY_sp (v : Byte) : (s.setY v).sp = s.sp := rfl
@[simp] theorem State.setY_a (v : Byte) : (s.setY v).a = s.a := rfl
@[simp] theorem State.setY_x (v : Byte) : (s.setY v).x = s.x := rfl
@[simp] theorem State.setY_y (v : Byte) : (s.setY v).y = v := rfl
@[simp] theorem State.setY_p (v : Byte) : (s.setY v).p = s.p := rfl
@[simp] theorem State.setY_irqPending (v : Byte) : (s.setY v).irqPending = s.irqPending := rfl
@[simp] theorem State.setY_nmiPending (v : Byte) : (s.setY v).nmiPending = s.nmiPending := rfl
@[simp] theorem State.setY_mem (v : Byte) : (s.setY v).mem = s.mem := rfl
@[simp] theorem State.setY_device (v : Byte) : (s.setY v).device = s.device := rfl
@[simp] theorem State.setY_busRead (v : Byte) (q : Word) : (s.setY v).busRead q = s.busRead q := rfl
@[simp] theorem State.setY_busWrite (v : Byte) (q : Word) (u : Byte) : (s.setY v).busWrite q u = s.busWrite q u := rfl
@[simp] theorem State.setY_byteAt (v : Byte) (q : Word) : (s.setY v).byteAt q = s.byteAt q := rfl
@[simp] theorem State.setY_memAfterWrite (v : Byte) (q : Word) (u : Byte) :
    (s.setY v).memAfterWrite q u = s.memAfterWrite q u := rfl
@[simp] theorem State.setY_haltReq (v : Byte) : (s.setY v).haltReq = s.haltReq := rfl
@[simp] theorem State.setY_started (v : Byte) : (s.setY v).started = s.started := rfl
@[simp] theorem State.setY_cfg (v : Byte) : (s.setY v).cfg = s.cfg := rfl
@[simp] theorem State.setY_cycles (v : Byte) : (s.setY v).cycles = s.cycles := rfl
@[simp] theorem State.setY_status (v : Byte) : (s.setY v).status = s.status := rfl
@[simp] theorem State.setY_bus (v : Byte) : (s.setY v).bus = s.bus := rfl

@[simp] theorem State.setSP_pc (v : Byte) : (s.setSP v).pc = s.pc := rfl
@[simp] theorem State.setSP_sp (v : Byte) : (s.setSP v).sp = v := rfl
@[simp] theorem State.setSP_a (v : Byte) : (s.setSP v).a = s.a := rfl
@[simp] theorem State.setSP_x (v : Byte) : (s.setSP v).x = s.x := rfl
@[simp] theorem State.setSP_y (v : Byte) : (s.setSP v).y = s.y := rfl
@[simp] theorem State.setSP_p (v : Byte) : (s.setSP v).p = s.p := rfl
@[simp] theorem State.setSP_irqPending (v : Byte) : (s.setSP v).irqPending = s.irqPending := rfl
@[simp] theorem State.setSP_nmiPending (v : Byte) : (s.setSP v).nmiPending = s.nmiPending := rfl
@[simp] theorem State.setSP_mem (v : Byte) : (s.setSP v).mem = s.mem := rfl
@[simp] theorem State.setSP_device (v : Byte) : (s.setSP v).device = s.device := rfl
@[simp] theorem State.setSP_busRead (v : Byte) (q : Word) : (s.setSP v).busRead q = s.busRead q := rfl
@[simp] theorem State.setSP_busWrite (v : Byte) (q : Word) (u : Byte) : (s.setSP v).busWrite q u = s.busWrite q u := rfl
@[simp] theorem State.setSP_byteAt (v : Byte) (q : Word) : (s.setSP v).byteAt q = s.byteAt q := rfl
@[simp] theorem State.setSP_memAfterWrite (v : Byte) (q : Word) (u : Byte) :
    (s.setSP v).memAfterWrite q u = s.memAfterWrite q u := rfl
@[simp] theorem State.setSP_haltReq (v : Byte) : (s.setSP v).haltReq = s.haltReq := rfl
@[simp] theorem State.setSP_started (v : Byte) : (s.setSP v).started = s.started := rfl
@[simp] theorem State.setSP_cfg (v : Byte) : (s.setSP v).cfg = s.cfg := rfl
@[simp] theorem State.setSP_cycles (v : Byte) : (s.setSP v).cycles = s.cycles := rfl
@[simp] theorem State.setSP_status (v : Byte) : (s.setSP v).status = s.status := rfl
@[simp] theorem State.setSP_bus (v : Byte) : (s.setSP v).bus = s.bus := rfl

@[simp] theorem State.setP_pc (f : Flags) : (s.setP f).pc = s.pc := rfl
@[simp] theorem State.setP_sp (f : Flags) : (s.setP f).sp = s.sp := rfl
@[simp] theorem State.setP_a (f : Flags) : (s.setP f).a = s.a := rfl
@[simp] theorem State.setP_x (f : Flags) : (s.setP f).x = s.x := rfl
@[simp] theorem State.setP_y (f : Flags) : (s.setP f).y = s.y := rfl
@[simp] theorem State.setP_p (f : Flags) : (s.setP f).p = f := rfl
@[simp] theorem State.setP_irqPending (f : Flags) : (s.setP f).irqPending = s.irqPending := rfl
@[simp] theorem State.setP_nmiPending (f : Flags) : (s.setP f).nmiPending = s.nmiPending := rfl
@[simp] theorem State.setP_mem (f : Flags) : (s.setP f).mem = s.mem := rfl
@[simp] theorem State.setP_device (f : Flags) : (s.setP f).device = s.device := rfl
@[simp] theorem State.setP_busRead (f : Flags) (q : Word) : (s.setP f).busRead q = s.busRead q := rfl
@[simp] theorem State.setP_busWrite (f : Flags) (q : Word) (u : Byte) : (s.setP f).busWrite q u = s.busWrite q u := rfl
@[simp] theorem State.setP_byteAt (f : Flags) (q : Word) : (s.setP f).byteAt q = s.byteAt q := rfl
@[simp] theorem State.setP_memAfterWrite (f : Flags) (q : Word) (u : Byte) :
    (s.setP f).memAfterWrite q u = s.memAfterWrite q u := rfl
@[simp] theorem State.setP_haltReq (f : Flags) : (s.setP f).haltReq = s.haltReq := rfl
@[simp] theorem State.setP_started (f : Flags) : (s.setP f).started = s.started := rfl
@[simp] theorem State.setP_cfg (f : Flags) : (s.setP f).cfg = s.cfg := rfl
@[simp] theorem State.setP_cycles (f : Flags) : (s.setP f).cycles = s.cycles := rfl
@[simp] theorem State.setP_status (f : Flags) : (s.setP f).status = s.status := rfl
@[simp] theorem State.setP_bus (f : Flags) : (s.setP f).bus = s.bus := rfl

@[simp] theorem State.setPC_pc (w : Word) : (s.setPC w).pc = w := rfl
@[simp] theorem State.setPC_sp (w : Word) : (s.setPC w).sp = s.sp := rfl
@[simp] theorem State.setPC_a (w : Word) : (s.setPC w).a = s.a := rfl
@[simp] theorem State.setPC_x (w : Word) : (s.setPC w).x = s.x := rfl
@[simp] theorem State.setPC_y (w : Word) : (s.setPC w).y = s.y := rfl
@[simp] theorem State.setPC_p (w : Word) : (s.setPC w).p = s.p := rfl
@[simp] theorem State.setPC_irqPending (w : Word) : (s.setPC w).irqPending = s.irqPending := rfl
@[simp] theorem State.setPC_nmiPending (w : Word) : (s.setPC w).nmiPending = s.nmiPending := rfl
@[simp] theorem State.setPC_mem (w : Word) : (s.setPC w).mem = s.mem := rfl
@[simp] theorem State.setPC_device (w : Word) : (s.setPC w).device = s.device := rfl
@[simp] theorem State.setPC_busRead (w : Word) (q : Word) : (s.setPC w).busRead q = s.busRead q := rfl
@[simp] theorem State.setPC_busWrite (w : Word) (q : Word) (u : Byte) : (s.setPC w).busWrite q u = s.busWrite q u := rfl
@[simp] theorem State.setPC_byteAt (w : Word) (q : Word) : (s.setPC w).byteAt q = s.byteAt q := rfl
@[simp] theorem State.setPC_memAfterWrite (w : Word) (q : Word) (u : Byte) :
    (s.setPC w).memAfterWrite q u = s.memAfterWrite q u := rfl
@[simp] theorem State.setPC_haltReq (w : Word) : (s.setPC w).haltReq = s.haltReq := rfl
@[simp] theorem State.setPC_started (w : Word) : (s.setPC w).started = s.started := rfl
@[simp] theorem State.setPC_cfg (w : Word) : (s.setPC w).cfg = s.cfg := rfl
@[simp] theorem State.setPC_cycles (w : Word) : (s.setPC w).cycles = s.cycles := rfl
@[simp] theorem State.setPC_status (w : Word) : (s.setPC w).status = s.status := rfl
@[simp] theorem State.setPC_bus (w : Word) : (s.setPC w).bus = s.bus := rfl

@[simp] theorem State.setIrqPending_pc (b : Bool) : (s.setIrqPending b).pc = s.pc := rfl
@[simp] theorem State.setIrqPending_sp (b : Bool) : (s.setIrqPending b).sp = s.sp := rfl
@[simp] theorem State.setIrqPending_a (b : Bool) : (s.setIrqPending b).a = s.a := rfl
@[simp] theorem State.setIrqPending_x (b : Bool) : (s.setIrqPending b).x = s.x := rfl
@[simp] theorem State.setIrqPending_y (b : Bool) : (s.setIrqPending b).y = s.y := rfl
@[simp] theorem State.setIrqPending_p (b : Bool) : (s.setIrqPending b).p = s.p := rfl
@[simp] theorem State.setIrqPending_irqPending (b : Bool) : (s.setIrqPending b).irqPending = b := rfl
@[simp] theorem State.setIrqPending_nmiPending (b : Bool) : (s.setIrqPending b).nmiPending = s.nmiPending := rfl
@[simp] theorem State.setIrqPending_mem (b : Bool) : (s.setIrqPending b).mem = s.mem := rfl
@[simp] theorem State.setIrqPending_device (b : Bool) : (s.setIrqPending b).device = s.device := rfl
@[simp] theorem State.setIrqPending_busRead (b : Bool) (q : Word) : (s.setIrqPending b).busRead q = s.busRead q := rfl
@[simp] theorem State.setIrqPending_busWrite (b : Bool) (q : Word) (u : Byte) :
    (s.setIrqPending b).busWrite q u = s.busWrite q u := rfl
@[simp] theorem State.setIrqPending_byteAt (b : Bool) (q : Word) : (s.setIrqPending b).byteAt q = s.byteAt q := rfl
@[simp] theorem State.setIrqPending_memAfterWrite (b : Bool) (q : Word) (u : Byte) :
    (s.setIrqPending b).memAfterWrite q u = s.memAfterWrite q u := rfl
@[simp] theorem State.setIrqPending_haltReq (b : Bool) : (s.setIrqPending b).haltReq = s.haltReq := rfl
@[simp] theorem State.setIrqPending_started (b : Bool) : (s.setIrqPending b).started = s.started := rfl
@[simp] theorem State.setIrqPending_cfg (b : Bool) : (s.setIrqPending b).cfg = s.cfg := rfl
@[simp] theorem State.setIrqPending_cycles (b : Bool) : (s.setIrqPending b).cycles = s.cycles := rfl
@[simp] theorem State.setIrqPending_status (b : Bool) : (s.setIrqPending b).status = s.status := rfl
@[simp] theorem State.setIrqPending_bus (b : Bool) : (s.setIrqPending b).bus = s.bus := rfl

@[simp] theorem State.setNmiPending_pc (b : Bool) : (s.setNmiPending b).pc = s.pc := rfl
@[simp] theorem State.setNmiPending_sp (b : Bool) : (s.setNmiPending b).sp = s.sp := rfl
@[simp] theorem State.setNmiPending_a (b : Bool) : (s.setNmiPending b).a = s.a := rfl
@[simp] theorem State.setNmiPending_x (b : Bool) : (s.setNmiPending b).x = s.x := rfl
@[simp] theorem State.setNmiPending_y (b : Bool) : (s.setNmiPending b).y = s.y := rfl
@[simp] theorem State.setNmiPending_p (b : Bool) : (s.setNmiPending b).p = s.p := rfl
@[simp] theorem State.setNmiPending_irqPending (b : Bool) : (s.setNmiPending b).irqPending = s.irqPending := rfl
@[simp] theorem State.setNmiPending_nmiPending (b : Bool) : (s.setNmiPending b).nmiPending = b := rfl
@[simp] theorem State.setNmiPending_mem (b : Bool) : (s.setNmiPending b).mem = s.mem := rfl
@[simp] theorem State.setNmiPending_device (b : Bool) : (s.setNmiPending b).device = s.device := rfl
@[simp] theorem State.setNmiPending_busRead (b : Bool) (q : Word) : (s.setNmiPending b).busRead q = s.busRead q := rfl
@[simp] theorem State.setNmiPending_busWrite (b : Bool) (q : Word) (u : Byte) :
    (s.setNmiPending b).busWrite q u = s.busWrite q u := rfl
@[simp] theorem State.setNmiPending_byteAt (b : Bool) (q : Word) : (s.setNmiPending b).byteAt q = s.byteAt q := rfl
@[simp] theorem State.setNmiPending_memAfterWrite (b : Bool) (q : Word) (u : Byte) :
    (s.setNmiPending b).memAfterWrite q u = s.memAfterWrite q u := rfl
@[simp] theorem State.setNmiPending_haltReq (b : Bool) : (s.setNmiPending b).haltReq = s.haltReq := rfl
@[simp] theorem State.setNmiPending_started (b : Bool) : (s.setNmiPending b).started = s.started := rfl
@[simp] theorem State.setNmiPending_cfg (b : Bool) : (s.setNmiPending b).cfg = s.cfg := rfl
@[simp] theorem State.setNmiPending_cycles (b : Bool) : (s.setNmiPending b).cycles = s.cycles := rfl
@[simp] theorem State.setNmiPending_status (b : Bool) : (s.setNmiPending b).status = s.status := rfl
@[simp] theorem State.setNmiPending_bus (b : Bool) : (s.setNmiPending b).bus = s.bus := rfl

@[simp] theorem State.setHaltReq_pc (b : Bool) : (s.setHaltReq b).pc = s.pc := rfl
@[simp] theorem State.setHaltReq_sp (b : Bool) : (s.setHaltReq b).sp = s.sp := rfl
@[simp] theorem State.setHaltReq_a (b : Bool) : (s.setHaltReq b).a = s.a := rfl
@[simp] theorem State.setHaltReq_x (b : Bool) : (s.setHaltReq b).x = s.x := rfl
@[simp] theorem State.setHaltReq_y (b : Bool) : (s.setHaltReq b).y = s.y := rfl
@[simp] theorem State.setHaltReq_p (b : Bool) : (s.setHaltReq b).p = s.p := rfl
@[simp] theorem State.setHaltReq_irqPending (b : Bool) : (s.setHaltReq b).irqPending = s.irqPending := rfl
@[simp] theorem State.setHaltReq_nmiPending (b : Bool) : (s.setHaltReq b).nmiPending = s.nmiPending := rfl
@[simp] theorem State.setHaltReq_mem (b : Bool) : (s.setHaltReq b).mem = s.mem := rfl
@[simp] theorem State.setHaltReq_device (b : Bool) : (s.setHaltReq b).device = s.device := rfl
@[simp] theorem State.setHaltReq_busRead (b : Bool) (q : Word) : (s.setHaltReq b).busRead q = s.busRead q := rfl
@[simp] theorem State.setHaltReq_busWrite (b : Bool) (q : Word) (u : Byte) :
    (s.setHaltReq b).busWrite q u = s.busWrite q u := rfl
@[simp] theorem State.setHaltReq_byteAt (b : Bool) (q : Word) : (s.setHaltReq b).byteAt q = s.byteAt q := rfl
@[simp] theorem State.setHaltReq_memAfterWrite (b : Bool) (q : Word) (u : Byte) :
    (s.setHaltReq b).memAfterWrite q u = s.memAfterWrite q u := rfl
@[simp] theorem State.setHaltReq_haltReq (b : Bool) : (s.setHaltReq b).haltReq = b := rfl
@[simp] theorem State.setHaltReq_started (b : Bool) : (s.setHaltReq b).started = s.started := rfl
@[simp] theorem State.setHaltReq_cfg (b : Bool) : (s.setHaltReq b).cfg = s.cfg := rfl
@[simp] theorem State.setHaltReq_cycles (b : Bool) : (s.setHaltReq b).cycles = s.cycles := rfl
@[simp] theorem State.setHaltReq_status (b : Bool) : (s.setHaltReq b).status = s.status := rfl
@[simp] theorem State.setHaltReq_bus (b : Bool) : (s.setHaltReq b).bus = s.bus := rfl

@[simp] theorem State.setStatus_pc (t : Status) : (s.setStatus t).pc = s.pc := rfl
@[simp] theorem State.setStatus_sp (t : Status) : (s.setStatus t).sp = s.sp := rfl
@[simp] theorem State.setStatus_a (t : Status) : (s.setStatus t).a = s.a := rfl
@[simp] theorem State.setStatus_x (t : Status) : (s.setStatus t).x = s.x := rfl
@[simp] theorem State.setStatus_y (t : Status) : (s.setStatus t).y = s.y := rfl
@[simp] theorem State.setStatus_p (t : Status) : (s.setStatus t).p = s.p := rfl
@[simp] theorem State.setStatus_irqPending (t : Status) : (s.setStatus t).irqPending = s.irqPending := rfl
@[simp] theorem State.setStatus_nmiPending (t : Status) : (s.setStatus t).nmiPending = s.nmiPending := rfl
@[simp] theorem State.setStatus_mem (t : Status) : (s.setStatus t).mem = s.mem := rfl
@[simp] theorem State.setStatus_device (t : Status) : (s.setStatus t).device = s.device := rfl
@[simp] theorem State.setStatus_busRead (t : Status) (q : Word) : (s.setStatus t).busRead q = s.busRead q := rfl
@[simp] theorem State.setStatus_busWrite (t : Status) (q : Word) (u : Byte) :
    (s.setStatus t).busWrite q u = s.busWrite q u := rfl
@[simp] theorem State.setStatus_byteAt (t : Status) (q : Word) : (s.setStatus t).byteAt q = s.byteAt q := rfl
@[simp] theorem State.setStatus_memAfterWrite (t : Status) (q : Word) (u : Byte) :
    (s.setStatus t).memAfterWrite q u = s.memAfterWrite q u := rfl
@[simp] theorem State.setStatus_haltReq (t : Status) : (s.setStatus t).haltReq = s.haltReq := rfl
@[simp] theorem State.setStatus_started (t : Status) : (s.setStatus t).started = s.started := rfl
@[simp] theorem State.setStatus_cfg (t : Status) : (s.setStatus t).cfg = s.cfg := rfl
@[simp] theorem State.setStatus_cycles (t : Status) : (s.setStatus t).cycles = s.cycles := rfl
@[simp] theorem State.setStatus_status (t : Status) : (s.setStatus t).status = t := rfl
@[simp] theorem State.setStatus_bus (t : Status) : (s.setStatus t).bus = s.bus := rfl

@[simp] theorem State.setDevice_pc (d : List Nat) : (s.setDevice d).pc = s.pc := rfl
@[simp] theorem State.setDevice_sp (d : List Nat) : (s.setDevice d).sp = s.sp := rfl
@[simp] theorem State.setDevice_a (d : List Nat) : (s.setDevice d).a = s.a := rfl
@[simp] theorem State.setDevice_x (d : List Nat) : (s.setDevice d).x = s.x := rfl
@[simp] theorem State.setDevice_y (d : List Nat) : (s.setDevice d).y = s.y := rfl
@[simp] theorem State.setDevice_p (d : List Nat) : (s.setDevice d).p = s.p := rfl
@[simp] theorem State.setDevice_irqPending (d : List Nat) : (s.setDevice d).irqPending = s.irqPending := rfl
@[simp] theorem State.setDevice_nmiPending (d : List Nat) : (s.setDevice d).nmiPending = s.nmiPending := rfl
@[simp] theorem State.setDevice_mem (d : List Nat) : (s.setDevice d).mem = s.mem := rfl
@[simp] theorem State.setDevice_device (d : List Nat) : (s.setDevice d).device = d := rfl
@[simp] theorem State.setDevice_haltReq (d : List Nat) : (s.setDevice d).haltReq = s.haltReq := rfl
@[simp] theorem State.setDevice_started (d : List Nat) : (s.setDevice d).started = s.started := rfl
@[simp] theorem State.setDevice_cfg (d : List Nat) : (s.setDevice d).cfg = s.cfg := rfl
@[simp] theorem State.setDevice_cycles (d : List Nat) : (s.setDevice d).cycles = s.cycles := rfl
@[simp] theorem State.setDevice_status (d : List Nat) : (s.setDevice d).status = s.status := rfl
@[simp] theorem State.setDevice_bus (d : List Nat) : (s.setDevice d).bus = s.bus := rfl

@[simp] theorem State.addCycles_pc (k : Nat) : (s.addCycles k).pc = s.pc := rfl
@[simp] theorem State.addCycles_sp (k : Nat) : (s.addCycles k).sp = s.sp := rfl
@[simp] theorem State.addCycles_a (k : Nat) : (s.addCycles k).a = s.a := rfl
@[simp] theorem State.addCycles_x (k : Nat) : (s.addCycles k).x = s.x := rfl
@[simp] theorem State.addCycles_y (k : Nat) : (s.addCycles k).y = s.y := rfl
@[simp] theorem State.addCycles_p (k : Nat) : (s.addCycles k).p = s.p := rfl
@[simp] theorem State.addCycles_irqPending (k : Nat) : (s.addCycles k).irqPending = s.irqPending := rfl
@[simp] theorem State.addCycles_nmiPending (k : Nat) : (s.addCycles k).nmiPending = s.nmiPending := rfl
@[simp] theorem State.addCycles_mem (k : Nat) : (s.addCycles k).mem = s.mem := rfl
@[simp] theorem State.addCycles_device (k : Nat) : (s.addCycles k).device = s.device := rfl
@[simp] theorem State.addCycles_busRead (k : Nat) (q : Word) : (s.addCycles k).busRead q = s.busRead q := rfl
@[simp] theorem State.addCycles_busWrite (k : Nat) (q : Word) (u : Byte) : (s.addCycles k).busWrite q u = s.busWrite q u := rfl
@[simp] theorem State.addCycles_byteAt (k : Nat) (q : Word) : (s.addCycles k).byteAt q = s.byteAt q := rfl
@[simp] theorem State.addCycles_memAfterWrite (k : Nat) (q : Word) (u : Byte) :
    (s.addCycles k).memAfterWrite q u = s.memAfterWrite q u := rfl
@[simp] theorem State.addCycles_haltReq (k : Nat) : (s.addCycles k).haltReq = s.haltReq := rfl
@[simp] theorem State.addCycles_started (k : Nat) : (s.addCycles k).started = s.started := rfl
@[simp] theorem State.addCycles_cfg (k : Nat) : (s.addCycles k).cfg = s.cfg := rfl
@[simp] theorem State.addCycles_cycles (k : Nat) : (s.addCycles k).cycles = s.cycles + k := rfl
@[simp] theorem State.addCycles_status (k : Nat) : (s.addCycles k).status = s.status := rfl
@[simp] theorem State.addCycles_bus (k : Nat) : (s.addCycles k).bus = s.bus := rfl

@[simp] theorem memRead_pc (a : Word) : (memRead s a).2.pc = s.pc := rfl
@[simp] theorem memRead_sp (a : Word) : (memRead s a).2.sp = s.sp := rfl
@[simp] theorem memRead_a (a : Word) : (memRead s a).2.a = s.a := rfl
@[simp] theorem memRead_x (a : Word) : (memRead s a).2.x = s.x := rfl
@[simp] theorem memRead_y (a : Word) : (memRead s a).2.y = s.y := rfl
@[simp] theorem memRead_p (a : Word) : (memRead s a).2.p = s.p := rfl
@[simp] theorem memRead_irqPending (a : Word) : (memRead s a).2.irqPending = s.irqPending := rfl
@[simp] theorem memRead_nmiPending (a : Word) : (memRead s a).2.nmiPending = s.nmiPending := rfl
@[simp] theorem memRead_mem (a : Word) : (memRead s a).2.mem = s.mem := rfl
@[simp] theorem memRead_device (a : Word) : (memRead s a).2.device = (s.busRead a).device := rfl
@[simp] theorem memRead_byteAt (a q : Word) : (memRead s a).2.byteAt q = s.byteAt q := rfl
@[simp] theorem memRead_haltReq (a : Word) : (memRead s a).2.haltReq = s.haltReq := rfl
@[simp] theorem memRead_started (a : Word) : (memRead s a).2.started = s.started := rfl
@[simp] theorem memRead_cfg (a : Word) : (memRead s a).2.cfg = s.cfg := rfl
@[simp] theorem memRead_cycles (a : Word) : (memRead s a).2.cycles = s.cycles := rfl
@[simp] theorem memRead_status (a : Word) : (memRead s a).2.status = s.status := rfl
@[simp] theorem memRead_bus (a : Word) : (memRead s a).2.bus = s.bus ++ [readAccess a (s.busRead a)] := rfl
@[simp] theorem memRead_value (a : Word) : (memRead s a).1 = (s.busRead a).value := rfl

@[simp] theorem memWrite_pc (a : Word) (v : Byte) : (memWrite s a v).pc = s.pc := rfl
@[simp] theorem memWrite_sp (a : Word) (v : Byte) : (memWrite s a v).sp = s.sp := rfl
@[simp] theorem memWrite_a (a : Word) (v : Byte) : (memWrite s a v).a = s.a := rfl
@[simp] theorem memWrite_x (a : Word) (v : Byte) : (memWrite s a v).x = s.x := rfl
@[simp] theorem memWrite_y (a : Word) (v : Byte) : (memWrite s a v).y = s.y := rfl
@[simp] theorem memWrite_p (a : Word) (v : Byte) : (memWrite s a v).p = s.p := rfl
@[simp] theorem memWrite_irqPending (a : Word) (v : Byte) : (memWrite s a v).irqPending = s.irqPending := rfl
@[simp] theorem memWrite_nmiPending (a : Word) (v : Byte) : (memWrite s a v).nmiPending = s.nmiPending := rfl
@[simp] theorem memWrite_mem (a : Word) (v : Byte) : (memWrite s a v).mem = s.memAfterWrite a v := rfl
@[simp] theorem memWrite_device (a : Word) (v : Byte) : (memWrite s a v).device = (s.busWrite a v).device := rfl
@[simp] theorem memWrite_haltReq (a : Word) (v : Byte) : (memWrite s a v).haltReq = s.haltReq := rfl
@[simp] theorem memWrite_started (a : Word) (v : Byte) : (memWrite s a v).started = s.started := rfl
@[simp] theorem memWrite_cfg (a : Word) (v : Byte) : (memWrite s a v).cfg = s.cfg := rfl
@[simp] theorem memWrite_cycles (a : Word) (v : Byte) : (memWrite s a v).cycles = s.cycles := rfl
@[simp] theorem memWrite_status (a : Word) (v : Byte) : (memWrite s a v).status = s.status := rfl
@[simp] theorem memWrite_bus (a : Word) (v : Byte) : (memWrite s a v).bus = s.bus ++ [writeAccess a v (s.busWrite a v)] := rfl

end Sys2Proof.Machine
end

