-- ==== Sys2Proof/Laws/Ops.lean ====
section
/-! SUPPORT. What each shared operation can do, said once: what it leaves alone over any bus, and, in the lemmas named `_ram`,
all it does over the default memory. -/

namespace Sys2Proof.Machine

open Sys2Proof

/-- Two addresses that differ as words differ as numbers. -/
theorem Word.toNat_ne {a b : Word} (h : b ≠ a) : b.toNat ≠ a.toNat := fun e => h (BitVec.eq_of_toNat_eq e)

/-- `byteAt` looks at the memory only. -/
theorem byteAt_congr {s t : State} (h : t.mem = s.mem) (a : Word) : t.byteAt a = s.byteAt a := by
  simp [State.byteAt, h]

/-- On the default memory no address is substituted. -/
theorem State.OnRam.substitutes {s : State} (h : s.OnRam) (a : Word) : s.cfg.substitutes a = false := by
  simp only [State.OnRam] at h
  simp [Config.substitutes, h]

/-- What the default memory answers to a read. -/
theorem busRead_ram {s : State} {a : Word} (h : s.cfg.substitutes a = false) :
    s.busRead a = { value := s.byteAt a, device := s.device, failed := false } := by simp [State.busRead, h]

/-- What the default memory answers to a write. -/
theorem busWrite_ram {s : State} {a : Word} (v : Byte) (h : s.cfg.substitutes a = false) :
    s.busWrite a v = { device := s.device, failed := false } := by simp [State.busWrite, h]

theorem memAfterWrite_ram {s : State} {a : Word} (v : Byte) (h : s.cfg.substitutes a = false) :
    s.memAfterWrite a v = Memory.write s.mem a.toNat v := by simp [State.memAfterWrite, h]

/-- A write over the default memory. -/
theorem memWrite_ram {s : State} {a : Word} (v : Byte) (h : s.cfg.substitutes a = false) :
    memWrite s a v = { s with mem := Memory.write s.mem a.toNat v, bus := s.bus ++ [.write a v] } := by
  simp [memWrite, writeAccess, busWrite_ram v h, memAfterWrite_ram v h]

/-- A read over the default memory. -/
theorem memRead_ram {s : State} {a : Word} (h : s.cfg.substitutes a = false) :
    memRead s a = (s.byteAt a, { s with bus := s.bus ++ [.read a (s.byteAt a)] }) := by
  simp [memRead, readAccess, busRead_ram h]

theorem memWrite_byteAt_same {s : State} {a : Word} (v : Byte) (h : s.cfg.substitutes a = false) :
    (memWrite s a v).byteAt a = v := by
  simp [State.byteAt, memAfterWrite_ram v h, Memory.read_write_same]

/-- A write leaves every other byte of the default memory alone, over any bus. -/
theorem memWrite_byteAt_ne (s : State) (a b : Word) (v : Byte) (h : b ≠ a) :
    (memWrite s a v).byteAt b = s.byteAt b := by
  simp only [State.byteAt, memWrite_mem, State.memAfterWrite]
  split
  · rfl
  · exact Memory.read_write_ne _ _ _ _ (Word.toNat_ne h)

theorem memWrite_wf (s : State) (a : Word) (v : Byte) (h : Memory.wf s.mem = true) :
    Memory.wf (memWrite s a v).mem = true := by
  simp only [memWrite_mem, State.memAfterWrite]
  split
  · exact h
  · exact Memory.wf_write s.mem a.toNat v a.isLt h

theorem fetch8_ram {s : State} (h : s.OnRam) :
    fetch8 s = (s.byteAt s.pc, { s with pc := s.pc + 1, bus := s.bus ++ [.read s.pc (s.byteAt s.pc)] }) := by
  simp [fetch8, memRead_ram (h.substitutes _), State.setPC]

theorem readWord_ram {s : State} (h : s.OnRam) (lo hi : Word) :
    readWord s lo hi = (mkWord (s.byteAt hi) (s.byteAt lo),
      { s with bus := s.bus ++ [.read lo (s.byteAt lo), .read hi (s.byteAt hi)] }) := by
  simp [readWord, memRead_ram, h.substitutes, State.byteAt]

/-- A word read over any bus changes nothing but the transactions and the state of the bus. -/
theorem readWord_state (s : State) (lo hi : Word) :
    (readWord s lo hi).2 = { s with device := (readWord s lo hi).2.device, bus := (readWord s lo hi).2.bus } := rfl

theorem push8_ram {s : State} (h : s.OnRam) (v : Byte) :
    push8 s v = { s with
      sp := s.sp - 1, mem := Memory.write s.mem (stackAddr s.sp).toNat v, bus := s.bus ++ [.write (stackAddr s.sp) v] } := by
  simp [push8, memWrite_ram v (h.substitutes _), State.setSP]

theorem pull8_ram {s : State} (h : s.OnRam) :
    pull8 s = (s.byteAt (stackAddr (s.sp + 1)),
      { s with sp := s.sp + 1,
               bus := s.bus ++ [.read (stackAddr (s.sp + 1)) (s.byteAt (stackAddr (s.sp + 1)))] }) := by
  simp [pull8, memRead_ram, h.substitutes, State.setSP, State.byteAt]

theorem push16_ram {s : State} (h : s.OnRam) (w : Word) :
    push16 s w = { s with
      sp := s.sp - 2
      mem := Memory.write (Memory.write s.mem (stackAddr s.sp).toNat (hiByte w)) (stackAddr (s.sp - 1)).toNat (loByte w)
      bus := s.bus ++ [.write (stackAddr s.sp) (hiByte w), .write (stackAddr (s.sp - 1)) (loByte w)] } := by
  have e : s.sp - 1#8 - 1#8 = s.sp - 2#8 := by bv_omega
  have h' : (push8 s (hiByte w)).OnRam := h
  rw [push16, push8_ram h', push8_ram h]
  simp [e]

theorem pull16_ram {s : State} (h : s.OnRam) :
    pull16 s =
      (mkWord (s.byteAt (stackAddr (s.sp + 2))) (s.byteAt (stackAddr (s.sp + 1))),
      { s with
        sp := s.sp + 2
        bus := s.bus ++ [.read (stackAddr (s.sp + 1)) (s.byteAt (stackAddr (s.sp + 1))),
          .read (stackAddr (s.sp + 2)) (s.byteAt (stackAddr (s.sp + 2)))] }) := by
  have e : s.sp + 1#8 + 1#8 = s.sp + 2#8 := by bv_omega
  have h' : (pull8 s).2.OnRam := h
  rw [pull16, pull8_ram h', pull8_ram h]
  simp [State.byteAt, e]

/-- The memory after the three pushes of an exception entry. -/
def entryMemory (s : State) (b : Bool) : Memory :=
  Memory.write (Memory.write (Memory.write s.mem (stackAddr s.sp).toNat (hiByte s.pc)) (stackAddr (s.sp - 1)).toNat
    (loByte s.pc)) (stackAddr (s.sp - 2)).toNat (packP s.p b)

/-- Everything that taking an exception does (60_exceptions.md R277) over the default memory, for any vector address. -/
theorem interruptEntry_ram {s : State} (h : s.OnRam) (vec : Word) (b : Bool) :
    interruptEntry s vec b = { s with
      pc := mkWord (Memory.read (entryMemory s b) (vec + 1).toNat) (Memory.read (entryMemory s b) vec.toNat)
      sp := s.sp - 3
      p := { s.p with i := true }
      mem := entryMemory s b
      bus := s.bus ++ [.write (stackAddr s.sp) (hiByte s.pc), .write (stackAddr (s.sp - 1)) (loByte s.pc),
        .write (stackAddr (s.sp - 2)) (packP s.p b), .read vec (Memory.read (entryMemory s b) vec.toNat),
        .read (vec + 1) (Memory.read (entryMemory s b) (vec + 1).toNat)] } := by
  have e : s.sp - 2#8 - 1#8 = s.sp - 3#8 := by bv_omega
  have h1 : (push16 s s.pc).OnRam := h
  have h2 : ((push8 (push16 s s.pc) (packP (push16 s s.pc).p b)).setFlagI true).OnRam := h
  rw [interruptEntry, readWord_ram h2, push8_ram h1, push16_ram h]
  simp [entryMemory, State.byteAt, State.setFlagI, State.setPC, e]

/-- What taking an exception leaves alone over any bus. -/
theorem interruptEntry_state (s : State) (vec : Word) (b : Bool) :
    interruptEntry s vec b = { s with
      pc := (interruptEntry s vec b).pc, sp := s.sp - 3, p := { s.p with i := true }
      mem := (interruptEntry s vec b).mem, device := (interruptEntry s vec b).device
      bus := (interruptEntry s vec b).bus } := by
  have e : s.sp - 3 = s.sp - 1 - 1 - 1 := by bv_omega
  rw [e]
  rfl

/-- Everything that returning from an exception does (R281) over the default memory. -/
theorem returnFromInterrupt_ram {s : State} (h : s.OnRam) :
    returnFromInterrupt s = { s with
      pc := mkWord (s.byteAt (stackAddr (s.sp + 3))) (s.byteAt (stackAddr (s.sp + 2)))
      sp := s.sp + 3
      p := unpackP (s.byteAt (stackAddr (s.sp + 1)))
      bus := s.bus ++ [.read (stackAddr (s.sp + 1)) (s.byteAt (stackAddr (s.sp + 1))),
        .read (stackAddr (s.sp + 2)) (s.byteAt (stackAddr (s.sp + 2))),
        .read (stackAddr (s.sp + 3)) (s.byteAt (stackAddr (s.sp + 3)))] } := by
  have h1 : s.sp + 1#8 + 1#8 = s.sp + 2#8 := by bv_omega
  have h2 : s.sp + 1#8 + 2#8 = s.sp + 3#8 := by bv_omega
  have h' : ((pull8 s).2.setP (unpackP (pull8 s).1)).OnRam := h
  rw [returnFromInterrupt, pull16_ram h', pull8_ram h]
  simp [State.byteAt, State.setP, State.setPC, h1, h2]

theorem push8_wf (s : State) (v : Byte) (h : Memory.wf s.mem = true) : Memory.wf (push8 s v).mem = true :=
  memWrite_wf s _ v h

theorem push16_wf (s : State) (w : Word) (h : Memory.wf s.mem = true) : Memory.wf (push16 s w).mem = true :=
  push8_wf _ _ (push8_wf _ _ h)

theorem interruptEntry_wf (s : State) (vec : Word) (b : Bool) (h : Memory.wf s.mem = true) :
    Memory.wf (interruptEntry s vec b).mem = true := by
  have h3 := push8_wf _ (packP (push16 s s.pc).p b) (push16_wf s s.pc h)
  exact h3

theorem loadBytes_wf (l : List Byte) (s : State) (a : Word) (h : Memory.wf s.mem = true) :
    Memory.wf (s.loadBytes a l).mem = true := by
  induction l generalizing s a with
  | nil => exact h
  | cons v rest ih => exact ih _ _ (Memory.wf_write _ _ _ a.isLt h)

/-- The stack address determines the stack pointer. -/
theorem stackAddr_inj {p q : Byte} (h : stackAddr p = stackAddr q) : p = q := by
  have := congrArg loByte h
  rwa [stackAddr, stackAddr, loByte_mkWord, loByte_mkWord] at this

/-- Over any bus the operand decoder writes nothing but the transactions and the state of the bus
(40_dispatch_and_operand_decoder.md R103). -/
theorem locate_state (s : State) (o : AddrOperand) :
    (locate s o).state = { s with device := (locate s o).state.device, bus := (locate s o).state.bus } := by
  cases o <;> rfl

/-- Over the default memory the operand decoder writes nothing but the transactions. -/
theorem locate_state_ram {s : State} (h : s.OnRam) (o : AddrOperand) :
    (locate s o).state = { s with bus := (locate s o).state.bus } := by
  cases o <;> simp [locate, readZeroPagePointer, readWord_ram h]

/-- A load over any bus writes nothing but the transactions and the state of the bus (R117). -/
theorem load_state (s : State) (o : Source) :
    (load s o).state = { s with device := (load s o).state.device, bus := (load s o).state.bus } := by
  cases o with
  | imm v => rfl
  | mem o =>
    simp only [load]
    rw [locate_state]
    rfl

/-- The byte of a memory operand over the default memory is the byte at its effective address. -/
theorem load_mem_value_ram {s : State} (h : s.OnRam) (o : AddrOperand) :
    (load s (.mem o)).value = s.byteAt (locate s o).addr := by
  simp only [load]
  rw [locate_state_ram h]
  simp [busRead_ram, h.substitutes, State.byteAt]

/-- Bytes put into memory from outside change nothing but memory. -/
theorem loadBytes_eq (l : List Byte) (s : State) (a : Word) :
    s.loadBytes a l = { s with mem := (s.loadBytes a l).mem } := by
  induction l generalizing s a with
  | nil => rfl
  | cons v rest ih => exact ih { s with mem := Memory.write s.mem a.toNat v } (a + 1)

end Sys2Proof.Machine
end

