-- ==== Sys2Proof/Laws/Instr.lean ====
section
/-! SUPPORT. What the operations shared by the meanings and by the step sequence can do, said once. -/

namespace Sys2Proof.Machine

open Sys2Proof

/-- No pointer read changes the default memory, over any bus. -/
theorem locate_byteAt (s : State) (o : AddrOperand) (a : Word) : (locate s o).state.byteAt a = s.byteAt a :=
  byteAt_congr (by rw [locate_state]) a

/-- The shared operation of the stores (42_load_store_transfer_stack.md R153) over any bus. -/
theorem storeByte_state (s : State) (o : AddrOperand) (v : Byte) :
    storeByte s o v = { s with
      mem := s.memAfterWrite (locate s o).addr v
      device := (storeByte s o v).device, bus := (storeByte s o v).bus } := by
  simp only [storeByte]
  rw [locate_state]
  rfl

/-- INC and DEC (46_inc_dec.md R210, R211) over any bus. -/
theorem modifyByte_state (f : Byte → Byte) (o : AddrOperand) (s : State) :
    modifyByte f o s =
      let r := f (load s (.mem o)).value
      { s with
        p := { s.p with z := r == 0x00, n := r.getLsbD 7 }
        mem := s.memAfterWrite (locate s o).addr r
        device := (modifyByte f o s).device, bus := (modifyByte f o s).bus } := by
  simp only [modifyByte, load]
  rw [locate_state]
  rfl

/-- Shifts and rotates of A (45_shift_rotate.md R200). -/
theorem shiftTarget_acc (f : Byte → Bool → Byte × Bool) (s : State) :
    shiftTarget f .acc s =
      let r := f s.a s.p.c
      { s with a := r.1, p := { s.p with c := r.2, z := r.1 == 0x00, n := r.1.getLsbD 7 } } := rfl

/-- Shifts and rotates of memory (R200) over any bus. -/
theorem shiftTarget_mem (f : Byte → Bool → Byte × Bool) (o : AddrOperand) (s : State) :
    shiftTarget f (.mem o) s =
      let r := f (load s (.mem o)).value s.p.c
      { s with
        p := { s.p with c := r.2, z := r.1 == 0x00, n := r.1.getLsbD 7 }
        mem := s.memAfterWrite (locate s o).addr r.1
        device := (shiftTarget f (.mem o) s).device, bus := (shiftTarget f (.mem o) s).bus } := by
  simp only [shiftTarget, load]
  rw [locate_state]
  rfl

/-- The logic instructions (44_bitwise.md R190 to R192). -/
theorem logicToA_eq (op : Byte → Byte → Byte) (o : Source) (s : State) :
    logicToA op o s =
      let r := op s.a (load s o).value
      { s with
        a := r
        p := { s.p with z := r == 0x00, n := r.getLsbD 7 }
        cycles := s.cycles + (load s o).crossed.toNat
        device := (load s o).state.device
        bus := (load s o).state.bus } := by
  simp only [logicToA]
  rw [load_state]
  rfl

/-- The branches (47_branches.md R220). -/
theorem branchIf_eq (taken : Bool) (d : Byte) (s : State) :
    branchIf taken d s =
      if taken then
        { s with pc := branchTarget s.pc d, cycles := s.cycles + branchPenalty s.pc (branchTarget s.pc d) }
      else s := rfl

/-- The target of a branch in numbers (R220). -/
theorem branchTarget_toNat (pc : Word) (d : Byte) :
    ((branchTarget pc d).toNat : Int) = ((pc.toNat : Int) + d.toInt) % 65536 := by
  have h : (d.signExtend 16).toInt = d.toInt := BitVec.toInt_signExtend_of_le (by omega)
  have h2 := BitVec.toInt_eq_toNat_cond (d.signExtend 16)
  rw [h] at h2
  simp only [branchTarget, BitVec.toNat_add]
  split at h2 <;> omega

/-- Over any bus the fetch writes PC, the transactions and the state of the bus only. -/
theorem fetchInstr_state (s : State) :
    (fetchInstr s).2 = { s with
      pc := (fetchInstr s).2.pc, device := (fetchInstr s).2.device, bus := (fetchInstr s).2.bus } := by
  unfold fetchInstr
  dsimp only
  split <;> rfl

/-- The three cases of the sampling of interrupts (60_exceptions.md R276). -/
theorem sampleInterrupts_cases (s : State) :
    (s.nmiPending = true ∧ sampleInterrupts s =
      (interruptEntry (s.setNmiPending false) nmiVector false).addCycles s.cfg.intEntryCycles) ∨
    (s.nmiPending = false ∧ s.irqPending = true ∧ s.p.i = false ∧ sampleInterrupts s =
      (interruptEntry (s.setIrqPending false) irqVector false).addCycles s.cfg.intEntryCycles) ∨
    (s.nmiPending = false ∧ (s.irqPending = false ∨ s.p.i = true) ∧ sampleInterrupts s = s) := by
  unfold sampleInterrupts
  cases s.nmiPending <;> cases s.irqPending <;> cases s.p.i <;> simp

/-- What the sampling of interrupts leaves alone whichever entry it takes. -/
theorem sampleInterrupts_fields (s : State) :
    (sampleInterrupts s).a = s.a ∧ (sampleInterrupts s).x = s.x ∧ (sampleInterrupts s).y = s.y ∧
    (sampleInterrupts s).haltReq = s.haltReq ∧ (sampleInterrupts s).started = s.started ∧
    (sampleInterrupts s).cfg = s.cfg ∧ (sampleInterrupts s).status = s.status := by
  rcases sampleInterrupts_cases s with ⟨_, h⟩ | ⟨_, _, _, h⟩ | ⟨_, _, h⟩ <;> rw [h]
  · exact ⟨rfl, rfl, rfl, rfl, rfl, rfl, rfl⟩
  · exact ⟨rfl, rfl, rfl, rfl, rfl, rfl, rfl⟩
  · exact ⟨rfl, rfl, rfl, rfl, rfl, rfl, rfl⟩

theorem sampleInterrupts_wf (s : State) (h : Memory.wf s.mem = true) :
    Memory.wf (sampleInterrupts s).mem = true := by
  rcases sampleInterrupts_cases s with ⟨_, e⟩ | ⟨_, _, _, e⟩ | ⟨_, _, e⟩ <;> rw [e]
  · rw [State.addCycles_mem]
    exact interruptEntry_wf (s.setNmiPending false) nmiVector false h
  · rw [State.addCycles_mem]
    exact interruptEntry_wf (s.setIrqPending false) irqVector false h
  · exact h

/-- Where no transaction fails the check of the transactions changes no outcome. -/
theorem failAtBus_of_none {t : State} (h : ∀ b ∈ t.bus, b.fails t.cfg = false) : failAtBus (.next t) = .next t := by
  simp only [failAtBus]
  rw [List.find?_eq_none.mpr (by simpa using h)]

/-- The first transaction that fails ends the event. -/
theorem failAtBus_of_first {t : State} {pre post : List BusAccess} {b : BusAccess} (e : t.bus = pre ++ b :: post)
    (hp : ∀ x ∈ pre, x.fails t.cfg = false) (hb : b.fails t.cfg = true) :
    failAtBus (.next t) = .fault (.busFault b.addr) := by
  simp only [failAtBus, e, List.find?_append]
  rw [List.find?_eq_none.mpr (by simpa using hp)]
  simp [hb]

/-- Everything the reset sequence does (70_reset_and_hazards.md R300) over the default memory. -/
theorem resetSequence_ram {s : State} (h : s.OnRam) :
    resetSequence s = { s with
      pc := mkWord (s.byteAt 0xFFFD) (s.byteAt 0xFFFC)
      sp := 0xFD, a := 0x00, x := 0x00, y := 0x00
      p := { n := false, v := false, d := false, i := true, z := false, c := false }
      irqPending := false, nmiPending := false, started := true
      bus := [.read 0xFFFC (s.byteAt 0xFFFC), .read 0xFFFD (s.byteAt 0xFFFD)] } := by
  have h' : State.OnRam { s with bus := [] } := h
  simp [resetSequence, readWord_ram h', resetVector, State.byteAt]

end Sys2Proof.Machine
end

