-- ==== Sys2Proof/Laws/PerInstr.lean ====
section
/-! SUPPORT. Facts about every instruction, one lemma per constructor. RoundTrip: decoding an encoded instruction gives it
back, with the bytes after it. -/

namespace Sys2Proof.Laws

open Sys2Proof

def RoundTrip.Statement (i : Instr) : Prop :=
  i.wellFormed = true → ∀ rest, decode (encode i ++ rest) = .ok (i, rest)

theorem RoundTrip.lda (o : AluOperand) : RoundTrip.Statement (.lda o) := by
  intro _ rest
  cases o <;> first
    | rfl
    | rename_i w _
      conv_rhs => rw [← mkWord_hi_lo w]
      rfl
theorem RoundTrip.ldx (o : LdxOperand) : RoundTrip.Statement (.ldx o) := by
  intro _ rest
  cases o <;> first
    | rfl
    | rename_i w _
      conv_rhs => rw [← mkWord_hi_lo w]
      rfl
theorem RoundTrip.ldy (o : LdyOperand) : RoundTrip.Statement (.ldy o) := by
  intro _ rest
  cases o <;> first
    | rfl
    | rename_i w _
      conv_rhs => rw [← mkWord_hi_lo w]
      rfl
theorem RoundTrip.sta (o : StaOperand) : RoundTrip.Statement (.sta o) := by
  intro _ rest
  cases o <;> first
    | rfl
    | rename_i w _
      conv_rhs => rw [← mkWord_hi_lo w]
      rfl
theorem RoundTrip.stx (o : StxOperand) : RoundTrip.Statement (.stx o) := by
  intro _ rest
  cases o <;> first
    | rfl
    | rename_i w _
      conv_rhs => rw [← mkWord_hi_lo w]
      rfl
theorem RoundTrip.sty (o : StyOperand) : RoundTrip.Statement (.sty o) := by
  intro _ rest
  cases o <;> first
    | rfl
    | rename_i w _
      conv_rhs => rw [← mkWord_hi_lo w]
      rfl
theorem RoundTrip.tax : RoundTrip.Statement .tax := fun _ _ => rfl
theorem RoundTrip.tay : RoundTrip.Statement .tay := fun _ _ => rfl
theorem RoundTrip.txa : RoundTrip.Statement .txa := fun _ _ => rfl
theorem RoundTrip.tya : RoundTrip.Statement .tya := fun _ _ => rfl
theorem RoundTrip.tsx : RoundTrip.Statement .tsx := fun _ _ => rfl
theorem RoundTrip.txs : RoundTrip.Statement .txs := fun _ _ => rfl
theorem RoundTrip.pha : RoundTrip.Statement .pha := fun _ _ => rfl
theorem RoundTrip.pla : RoundTrip.Statement .pla := fun _ _ => rfl
theorem RoundTrip.php : RoundTrip.Statement .php := fun _ _ => rfl
theorem RoundTrip.plp : RoundTrip.Statement .plp := fun _ _ => rfl
theorem RoundTrip.adc (o : AluOperand) : RoundTrip.Statement (.adc o) := by
  intro _ rest
  cases o <;> first
    | rfl
    | rename_i w _
      conv_rhs => rw [← mkWord_hi_lo w]
      rfl
theorem RoundTrip.sbc (o : AluOperand) : RoundTrip.Statement (.sbc o) := by
  intro _ rest
  cases o <;> first
    | rfl
    | rename_i w _
      conv_rhs => rw [← mkWord_hi_lo w]
      rfl
theorem RoundTrip.cmp (o : AluOperand) : RoundTrip.Statement (.cmp o) := by
  intro _ rest
  cases o <;> first
    | rfl
    | rename_i w _
      conv_rhs => rw [← mkWord_hi_lo w]
      rfl
theorem RoundTrip.cpx (o : CpOperand) : RoundTrip.Statement (.cpx o) := by
  intro _ rest
  cases o <;> first
    | rfl
    | rename_i w _
      conv_rhs => rw [← mkWord_hi_lo w]
      rfl
theorem RoundTrip.cpy (o : CpOperand) : RoundTrip.Statement (.cpy o) := by
  intro _ rest
  cases o <;> first
    | rfl
    | rename_i w _
      conv_rhs => rw [← mkWord_hi_lo w]
      rfl
theorem RoundTrip.and (o : AluOperand) : RoundTrip.Statement (.and o) := by
  intro _ rest
  cases o <;> first
    | rfl
    | rename_i w _
      conv_rhs => rw [← mkWord_hi_lo w]
      rfl
theorem RoundTrip.ora (o : AluOperand) : RoundTrip.Statement (.ora o) := by
  intro _ rest
  cases o <;> first
    | rfl
    | rename_i w _
      conv_rhs => rw [← mkWord_hi_lo w]
      rfl
theorem RoundTrip.eor (o : AluOperand) : RoundTrip.Statement (.eor o) := by
  intro _ rest
  cases o <;> first
    | rfl
    | rename_i w _
      conv_rhs => rw [← mkWord_hi_lo w]
      rfl
theorem RoundTrip.bit (o : BitOperand) : RoundTrip.Statement (.bit o) := by
  intro _ rest
  cases o <;> first
    | rfl
    | rename_i w _
      conv_rhs => rw [← mkWord_hi_lo w]
      rfl
theorem RoundTrip.asl (o : ShiftOperand) : RoundTrip.Statement (.asl o) := by
  intro _ rest
  cases o <;> first
    | rfl
    | rename_i w _
      conv_rhs => rw [← mkWord_hi_lo w]
      rfl
theorem RoundTrip.lsr (o : ShiftOperand) : RoundTrip.Statement (.lsr o) := by
  intro _ rest
  cases o <;> first
    | rfl
    | rename_i w _
      conv_rhs => rw [← mkWord_hi_lo w]
      rfl
theorem RoundTrip.rol (o : ShiftOperand) : RoundTrip.Statement (.rol o) := by
  intro _ rest
  cases o <;> first
    | rfl
    | rename_i w _
      conv_rhs => rw [← mkWord_hi_lo w]
      rfl
theorem RoundTrip.ror (o : ShiftOperand) : RoundTrip.Statement (.ror o) := by
  intro _ rest
  cases o <;> first
    | rfl
    | rename_i w _
      conv_rhs => rw [← mkWord_hi_lo w]
      rfl
theorem RoundTrip.inc (o : IncOperand) : RoundTrip.Statement (.inc o) := by
  intro _ rest
  cases o <;> first
    | rfl
    | rename_i w _
      conv_rhs => rw [← mkWord_hi_lo w]
      rfl
theorem RoundTrip.dec (o : IncOperand) : RoundTrip.Statement (.dec o) := by
  intro _ rest
  cases o <;> first
    | rfl
    | rename_i w _
      conv_rhs => rw [← mkWord_hi_lo w]
      rfl
theorem RoundTrip.inx : RoundTrip.Statement .inx := fun _ _ => rfl
theorem RoundTrip.dex : RoundTrip.Statement .dex := fun _ _ => rfl
theorem RoundTrip.iny : RoundTrip.Statement .iny := fun _ _ => rfl
theorem RoundTrip.dey : RoundTrip.Statement .dey := fun _ _ => rfl
theorem RoundTrip.bcc (d : Byte) : RoundTrip.Statement (.bcc d) := fun _ _ => rfl
theorem RoundTrip.bcs (d : Byte) : RoundTrip.Statement (.bcs d) := fun _ _ => rfl
theorem RoundTrip.bne (d : Byte) : RoundTrip.Statement (.bne d) := fun _ _ => rfl
theorem RoundTrip.beq (d : Byte) : RoundTrip.Statement (.beq d) := fun _ _ => rfl
theorem RoundTrip.bpl (d : Byte) : RoundTrip.Statement (.bpl d) := fun _ _ => rfl
theorem RoundTrip.bmi (d : Byte) : RoundTrip.Statement (.bmi d) := fun _ _ => rfl
theorem RoundTrip.bvc (d : Byte) : RoundTrip.Statement (.bvc d) := fun _ _ => rfl
theorem RoundTrip.bvs (d : Byte) : RoundTrip.Statement (.bvs d) := fun _ _ => rfl
theorem RoundTrip.jmp (o : JmpOperand) : RoundTrip.Statement (.jmp o) := by
  intro _ rest
  cases o <;> first
    | rfl
    | rename_i w _
      conv_rhs => rw [← mkWord_hi_lo w]
      rfl
theorem RoundTrip.jsr (w : Word) : RoundTrip.Statement (.jsr w) := by
  intro _ rest
  conv_rhs => rw [← mkWord_hi_lo w]
  rfl
theorem RoundTrip.rts : RoundTrip.Statement .rts := fun _ _ => rfl
theorem RoundTrip.brk : RoundTrip.Statement .brk := fun _ _ => rfl
theorem RoundTrip.rti : RoundTrip.Statement .rti := fun _ _ => rfl
theorem RoundTrip.clc : RoundTrip.Statement .clc := fun _ _ => rfl
theorem RoundTrip.sec : RoundTrip.Statement .sec := fun _ _ => rfl
theorem RoundTrip.cld : RoundTrip.Statement .cld := fun _ _ => rfl
theorem RoundTrip.sed : RoundTrip.Statement .sed := fun _ _ => rfl
theorem RoundTrip.cli : RoundTrip.Statement .cli := fun _ _ => rfl
theorem RoundTrip.sei : RoundTrip.Statement .sei := fun _ _ => rfl
theorem RoundTrip.clv : RoundTrip.Statement .clv := fun _ _ => rfl
theorem RoundTrip.nop : RoundTrip.Statement .nop := fun _ _ => rfl
theorem RoundTrip.undef (b : Byte) : RoundTrip.Statement (.undef b) := by
  intro h rest
  simp [encode, decode, opcodeTable_undefined b h]

end Sys2Proof.Laws
end

