-- ==== Sys2Proof/Tests/Slice0.lean ====
section
/-! SUPPORT. The model's own tests, each about one step from a small state; and a witness for every statement with
hypotheses. A test's name gives its source: R<n> the example of that rule, V<n> the vector of 95_test_vectors.md, and
`decode` the rows of 30_encoding.md R86. -/

namespace Sys2Proof.Tests

open Sys2Proof Sys2Proof.Machine Sys2Proof.Claims

/-! ## Helpers -/

/-- Six flags from six bits, in the order N V D I Z C. -/
def bits (k : Nat) : Flags :=
  { n := k.testBit 5, v := k.testBit 4, d := k.testBit 3, i := k.testBit 2, z := k.testBit 1, c := k.testBit 0 }

/-- The start of the one-step examples (00_scope.md R17). -/
def start : State := { State.reset with pc := 0x0200, p := bits 0b000000, bus := [] }

/-- Bytes at PC, and single cells, put into memory. -/
def stored (s : State) (bytes : List Byte) (cells : List (Word × Byte)) : State :=
  cells.foldl (fun t c => t.loadBytes c.1 [c.2]) (s.loadBytes s.pc bytes)

/-- The next state of an outcome. -/
def next? : Host.Outcome State Fault Refusal → Option State
  | .next t => some t
  | .fault _ => none
  | .refused _ => none

/-- The fault of an outcome. -/
def fault? : Host.Outcome State Fault Refusal → Option Fault
  | .next _ => none
  | .fault f => some f
  | .refused _ => none

/-- The refusal of an outcome. -/
def refusal? : Host.Outcome State Fault Refusal → Option Refusal
  | .next _ => none
  | .fault _ => none
  | .refused r => some r

/-- The next state, where there is one. -/
def nextOf (o : Host.Outcome State Fault Refusal) : State := (next? o).getD start

/-- What `f` sees of the state after one step. -/
def look {α : Type} (f : State → α) (s : State) : Option α := (next? (step s)).map f

/-- The instruction that a whole byte list is. -/
def readOne (bytes : List Byte) : Option Instr :=
  match decode bytes with
  | .ok (i, []) => some i
  | .ok (_, _ :: _) => none
  | .error _ => none

/-! ## Well-formedness -/

theorem test_wellFormed_refuses_assigned_byte : Instr.wellFormed (.undef 0xA9) = false := by decide

theorem test_wellFormed_accepts_unassigned_byte : Instr.wellFormed (.undef 0x02) = true := by decide

theorem test_wellFormed_accepts_every_operand : Instr.wellFormed (.lda (.abs 0xFFFF)) = true := by decide

/-! ## Decoding: every row of R86 but the undefined ones, its opcode bit by bit -/

theorem test_decode_load_store :
    [[0b10101001, 0x34], [0b10100101, 0x34], [0b10110101, 0x34], [0b10101101, 0x34, 0x12], [0b10111101, 0x34, 0x12],
     [0b10111001, 0x34, 0x12], [0b10100001, 0x34], [0b10110001, 0x34], [0b10100010, 0x34], [0b10100110, 0x34],
     [0b10110110, 0x34], [0b10101110, 0x34, 0x12], [0b10111110, 0x34, 0x12], [0b10100000, 0x34], [0b10100100, 0x34],
     [0b10110100, 0x34], [0b10101100, 0x34, 0x12], [0b10111100, 0x34, 0x12], [0b10000101, 0x34], [0b10010101, 0x34],
     [0b10001101, 0x34, 0x12], [0b10011101, 0x34, 0x12], [0b10011001, 0x34, 0x12], [0b10000001, 0x34],
     [0b10010001, 0x34], [0b10000110, 0x34], [0b10010110, 0x34], [0b10001110, 0x34, 0x12], [0b10000100, 0x34],
     [0b10010100, 0x34], [0b10001100, 0x34, 0x12]].map readOne =
    [.lda (.imm 0x34), .lda (.zp 0x34), .lda (.zpx 0x34), .lda (.abs 0x1234), .lda (.abx 0x1234), .lda (.aby 0x1234),
     .lda (.izx 0x34), .lda (.izy 0x34), .ldx (.imm 0x34), .ldx (.zp 0x34), .ldx (.zpy 0x34), .ldx (.abs 0x1234),
     .ldx (.aby 0x1234), .ldy (.imm 0x34), .ldy (.zp 0x34), .ldy (.zpx 0x34), .ldy (.abs 0x1234), .ldy (.abx 0x1234),
     .sta (.zp 0x34), .sta (.zpx 0x34), .sta (.abs 0x1234), .sta (.abx 0x1234), .sta (.aby 0x1234), .sta (.izx 0x34),
     .sta (.izy 0x34), .stx (.zp 0x34), .stx (.zpy 0x34), .stx (.abs 0x1234), .sty (.zp 0x34), .sty (.zpx 0x34),
     .sty (.abs 0x1234)].map some := by decide

theorem test_decode_transfer_stack :
    [[0b10101010], [0b10101000], [0b10001010], [0b10011000], [0b10111010], [0b10011010], [0b01001000], [0b01101000],
     [0b00001000], [0b00101000]].map readOne =
    [.tax, .tay, .txa, .tya, .tsx, .txs, .pha, .pla, .php, .plp].map some := by decide

theorem test_decode_arithmetic :
    [[0b01101001, 0x34], [0b01100101, 0x34], [0b01110101, 0x34], [0b01101101, 0x34, 0x12], [0b01111101, 0x34, 0x12],
     [0b01111001, 0x34, 0x12], [0b01100001, 0x34], [0b01110001, 0x34], [0b11101001, 0x34], [0b11100101, 0x34],
     [0b11110101, 0x34], [0b11101101, 0x34, 0x12], [0b11111101, 0x34, 0x12], [0b11111001, 0x34, 0x12],
     [0b11100001, 0x34], [0b11110001, 0x34], [0b11001001, 0x34], [0b11000101, 0x34], [0b11010101, 0x34],
     [0b11001101, 0x34, 0x12], [0b11011101, 0x34, 0x12], [0b11011001, 0x34, 0x12], [0b11000001, 0x34],
     [0b11010001, 0x34], [0b11100000, 0x34], [0b11100100, 0x34], [0b11101100, 0x34, 0x12], [0b11000000, 0x34],
     [0b11000100, 0x34], [0b11001100, 0x34, 0x12]].map readOne =
    [.adc (.imm 0x34), .adc (.zp 0x34), .adc (.zpx 0x34), .adc (.abs 0x1234), .adc (.abx 0x1234), .adc (.aby 0x1234),
     .adc (.izx 0x34), .adc (.izy 0x34), .sbc (.imm 0x34), .sbc (.zp 0x34), .sbc (.zpx 0x34), .sbc (.abs 0x1234),
     .sbc (.abx 0x1234), .sbc (.aby 0x1234), .sbc (.izx 0x34), .sbc (.izy 0x34), .cmp (.imm 0x34), .cmp (.zp 0x34),
     .cmp (.zpx 0x34), .cmp (.abs 0x1234), .cmp (.abx 0x1234), .cmp (.aby 0x1234), .cmp (.izx 0x34),
     .cmp (.izy 0x34), .cpx (.imm 0x34), .cpx (.zp 0x34), .cpx (.abs 0x1234), .cpy (.imm 0x34), .cpy (.zp 0x34),
     .cpy (.abs 0x1234)].map some := by decide

theorem test_decode_bitwise :
    [[0b00101001, 0x34], [0b00100101, 0x34], [0b00110101, 0x34], [0b00101101, 0x34, 0x12], [0b00111101, 0x34, 0x12],
     [0b00111001, 0x34, 0x12], [0b00100001, 0x34], [0b00110001, 0x34], [0b00001001, 0x34], [0b00000101, 0x34],
     [0b00010101, 0x34], [0b00001101, 0x34, 0x12], [0b00011101, 0x34, 0x12], [0b00011001, 0x34, 0x12],
     [0b00000001, 0x34], [0b00010001, 0x34], [0b01001001, 0x34], [0b01000101, 0x34], [0b01010101, 0x34],
     [0b01001101, 0x34, 0x12], [0b01011101, 0x34, 0x12], [0b01011001, 0x34, 0x12], [0b01000001, 0x34],
     [0b01010001, 0x34], [0b00100100, 0x34], [0b00101100, 0x34, 0x12]].map readOne =
    [.and (.imm 0x34), .and (.zp 0x34), .and (.zpx 0x34), .and (.abs 0x1234), .and (.abx 0x1234), .and (.aby 0x1234),
     .and (.izx 0x34), .and (.izy 0x34), .ora (.imm 0x34), .ora (.zp 0x34), .ora (.zpx 0x34), .ora (.abs 0x1234),
     .ora (.abx 0x1234), .ora (.aby 0x1234), .ora (.izx 0x34), .ora (.izy 0x34), .eor (.imm 0x34), .eor (.zp 0x34),
     .eor (.zpx 0x34), .eor (.abs 0x1234), .eor (.abx 0x1234), .eor (.aby 0x1234), .eor (.izx 0x34),
     .eor (.izy 0x34), .bit (.zp 0x34), .bit (.abs 0x1234)].map some := by decide

theorem test_decode_shift :
    [[0b00000110, 0x34], [0b00010110, 0x34], [0b00001110, 0x34, 0x12], [0b00011110, 0x34, 0x12], [0b00001010],
     [0b01000110, 0x34], [0b01010110, 0x34], [0b01001110, 0x34, 0x12], [0b01011110, 0x34, 0x12], [0b01001010],
     [0b00100110, 0x34], [0b00110110, 0x34], [0b00101110, 0x34, 0x12], [0b00111110, 0x34, 0x12], [0b00101010],
     [0b01100110, 0x34], [0b01110110, 0x34], [0b01101110, 0x34, 0x12], [0b01111110, 0x34, 0x12], [0b01101010]].map
      readOne =
    [.asl (.zp 0x34), .asl (.zpx 0x34), .asl (.abs 0x1234), .asl (.abx 0x1234), .asl .acc, .lsr (.zp 0x34),
     .lsr (.zpx 0x34), .lsr (.abs 0x1234), .lsr (.abx 0x1234), .lsr .acc, .rol (.zp 0x34), .rol (.zpx 0x34),
     .rol (.abs 0x1234), .rol (.abx 0x1234), .rol .acc, .ror (.zp 0x34), .ror (.zpx 0x34), .ror (.abs 0x1234),
     .ror (.abx 0x1234), .ror .acc].map some := by decide

theorem test_decode_inc_dec :
    [[0b11100110, 0x34], [0b11110110, 0x34], [0b11101110, 0x34, 0x12], [0b11111110, 0x34, 0x12], [0b11000110, 0x34],
     [0b11010110, 0x34], [0b11001110, 0x34, 0x12], [0b11011110, 0x34, 0x12], [0b11101000], [0b11001010],
     [0b11001000], [0b10001000]].map readOne =
    [.inc (.zp 0x34), .inc (.zpx 0x34), .inc (.abs 0x1234), .inc (.abx 0x1234), .dec (.zp 0x34), .dec (.zpx 0x34),
     .dec (.abs 0x1234), .dec (.abx 0x1234), .inx, .dex, .iny, .dey].map some := by decide

theorem test_decode_branches :
    [[0b10010000, 0x34], [0b10110000, 0x34], [0b11010000, 0x34], [0b11110000, 0x34], [0b00010000, 0x34],
     [0b00110000, 0x34], [0b01010000, 0x34], [0b01110000, 0x34]].map readOne =
    [.bcc 0x34, .bcs 0x34, .bne 0x34, .beq 0x34, .bpl 0x34, .bmi 0x34, .bvc 0x34, .bvs 0x34].map some := by decide

theorem test_decode_jumps :
    [[0b01001100, 0x34, 0x12], [0b01101100, 0x34, 0x12], [0b00100000, 0x34, 0x12], [0b01100000], [0b00000000],
     [0b01000000]].map readOne =
    [.jmp (.abs 0x1234), .jmp (.ind 0x1234), .jsr 0x1234, .rts, .brk, .rti].map some := by decide

theorem test_decode_flags_nop :
    [[0b00011000], [0b00111000], [0b11011000], [0b11111000], [0b01011000], [0b01111000], [0b10111000], [0b11101010]].map
      readOne =
    [.clc, .sec, .cld, .sed, .cli, .sei, .clv, .nop].map some := by decide

/-- R88: the 105 bytes, each of one byte. -/
theorem test_decode_undefined :
    undefinedOpcodes.map (fun b => readOne [b]) = undefinedOpcodes.map (fun b => some (.undef b)) := by decide +kernel

theorem test_decode_nothing : decode [] = .error .noOpcode := by decide

theorem test_decode_truncated : decode [0xAD, 0x34] = .error (.operandMissing 0xAD) := by decide

theorem test_decode_leaves_the_rest : decode [0xA9, 0x42, 0x85, 0x10] = .ok (.lda (.imm 0x42), [0x85, 0x10]) := by decide

theorem test_decodeTableWord : decodeTableWord 24 0x1234BD = some (.lda (.abx 0x1234)) := by decide

/-- The operand bytes above `nbits` are zeros. -/
theorem test_decodeTableWord_short : decodeTableWord 8 0xBD = some (.lda (.abx 0x0000)) := by decide

theorem test_encode : encode (.jmp (.ind 0x12FF)) = [0x6C, 0xFF, 0x12] := by decide

/-! ## Instructions: the examples of the rules R150 to R259 -/

theorem test_R150_lda : look (fun t => (t.pc, t.a, t.p, t.cycles))
    (stored { start with x := 0x01 } [0xB5, 0xFF] [(0x0000, 0x80)]) =
    some (0x0202, 0x80, bits 0b100000, 4) := by decide

theorem test_R151_ldx : look (fun t => (t.pc, t.x, t.p, t.cycles))
    (stored { start with y := 0xFF } [0xBE, 0x00, 0x12] [(0x12FF, 0x00)]) =
    some (0x0203, 0x00, bits 0b000010, 4) := by decide

theorem test_R152_ldy : look (fun t => (t.pc, t.y, t.p, t.cycles))
    (stored { start with x := 0x01 } [0xBC, 0xFF, 0x12] [(0x1300, 0x7F)]) =
    some (0x0203, 0x7F, bits 0b000000, 5) := by decide

theorem test_R153_sta : look (fun t => (t.pc, t.byteAt 0x1300, t.cycles))
    (stored { start with a := 0x42, y := 0x01 } [0x91, 0x20] [(0x0020, 0xFF), (0x0021, 0x12)]) =
    some (0x0202, 0x42, 6) := by decide

theorem test_R154_stx : look (fun t => (t.pc, t.byteAt 0x0001, t.cycles))
    (stored { start with x := 0x5A, y := 0x02 } [0x96, 0xFF] []) = some (0x0202, 0x5A, 4) := by decide

theorem test_R155_sty : look (fun t => (t.pc, t.byteAt 0x1234, t.cycles))
    (stored { start with y := 0xA5 } [0x8C, 0x34, 0x12] []) = some (0x0203, 0xA5, 4) := by decide

theorem test_R156_tax : look (fun t => (t.pc, t.x, t.p, t.cycles))
    (stored { start with a := 0x80 } [0xAA] []) = some (0x0201, 0x80, bits 0b100000, 2) := by decide

theorem test_R157_tay : look (fun t => (t.pc, t.y, t.p, t.cycles))
    (stored { start with a := 0x00, y := 0x55 } [0xA8] []) = some (0x0201, 0x00, bits 0b000010, 2) := by decide

theorem test_R158_txa : look (fun t => (t.pc, t.a, t.p, t.cycles))
    (stored { start with x := 0x7F, a := 0xFF } [0x8A] []) = some (0x0201, 0x7F, bits 0b000000, 2) := by decide

theorem test_R159_tya : look (fun t => (t.pc, t.a, t.p, t.cycles))
    (stored { start with y := 0xC3 } [0x98] []) = some (0x0201, 0xC3, bits 0b100000, 2) := by decide

theorem test_R160_tsx : look (fun t => (t.pc, t.x, t.p, t.cycles))
    (stored start [0xBA] []) = some (0x0201, 0xFD, bits 0b100000, 2) := by decide

theorem test_R161_txs : look (fun t => (t.pc, t.sp, t.p, t.cycles))
    (stored { start with x := 0x00, p := bits 0b100000 } [0x9A] []) =
    some (0x0201, 0x00, bits 0b100000, 2) := by decide

theorem test_R162_pha : look (fun t => (t.pc, t.sp, t.byteAt 0x01FD, t.cycles))
    (stored { start with a := 0x42 } [0x48] []) = some (0x0201, 0xFC, 0x42, 3) := by decide

theorem test_R163_pla : look (fun t => (t.pc, [t.a, t.sp], t.p, t.cycles))
    (stored { start with sp := 0xFC } [0x68] [(0x01FD, 0x80)]) =
    some (0x0201, [0x80, 0xFD], bits 0b100000, 4) := by decide

theorem test_R164_php : look (fun t => (t.pc, t.sp, t.byteAt 0x01FD, t.p, t.cycles))
    (stored { start with p := bits 0b110001 } [0x08] []) = some (0x0201, 0xFC, 0xF1, bits 0b110001, 3) := by decide

theorem test_R165_plp : look (fun t => (t.pc, t.sp, t.p, t.cycles))
    (stored { start with sp := 0xFC, p := bits 0b000000 } [0x28] [(0x01FD, 0xCF)]) =
    some (0x0201, 0xFD, bits 0b111111, 4) := by decide

theorem test_R180a_adc : look (fun t => (t.pc, t.a, t.p, t.cycles))
    (stored { start with a := 0xF0, p := bits 0b000001 } [0x69, 0x20] []) =
    some (0x0202, 0x11, bits 0b000001, 2) := by decide

theorem test_R180b_adc : look (fun t => (t.pc, t.a, t.p, t.cycles))
    (stored { start with a := 0x7F } [0x69, 0x01] []) = some (0x0202, 0x80, bits 0b110000, 2) := by decide

theorem test_R181_sbc : look (fun t => (t.pc, t.a, t.p, t.cycles))
    (stored { start with a := 0x80, p := bits 0b000001 } [0xE9, 0x01] []) =
    some (0x0202, 0x7F, bits 0b010001, 2) := by decide

theorem test_R182_cmp : look (fun t => (t.pc, t.a, t.p, t.cycles))
    (stored { start with a := 0x42 } [0xC9, 0x42] []) = some (0x0202, 0x42, bits 0b000011, 2) := by decide

theorem test_R183_cpx : look (fun t => (t.pc, t.p, t.cycles))
    (stored { start with x := 0x10 } [0xE4, 0x40] [(0x0040, 0x20)]) = some (0x0202, bits 0b100000, 3) := by decide

theorem test_R184_cpy : look (fun t => (t.pc, t.p, t.cycles))
    (stored { start with y := 0xFF } [0xCC, 0x34, 0x12] [(0x1234, 0x7F)]) =
    some (0x0203, bits 0b100001, 4) := by decide

theorem test_R190_and : look (fun t => (t.pc, t.a, t.p, t.cycles))
    (stored { start with a := 0xF0 } [0x29, 0x0F] []) = some (0x0202, 0x00, bits 0b000010, 2) := by decide

theorem test_R191_ora : look (fun t => (t.pc, t.a, t.p, t.cycles))
    (stored { start with a := 0x01, x := 0x04 } [0x01, 0x20] [(0x0024, 0x00), (0x0025, 0x30), (0x3000, 0x80)]) =
    some (0x0202, 0x81, bits 0b100000, 6) := by decide

theorem test_R192_eor : look (fun t => (t.pc, t.a, t.p, t.cycles))
    (stored { start with a := 0xAA } [0x49, 0xFF] []) = some (0x0202, 0x55, bits 0b000000, 2) := by decide

theorem test_R193_bit : look (fun t => (t.pc, t.p, t.cycles))
    (stored { start with a := 0x01 } [0x24, 0x10] [(0x0010, 0xC0)]) = some (0x0202, bits 0b110010, 3) := by decide

theorem test_R201_asl : look (fun t => (t.pc, t.a, t.p, t.cycles))
    (stored { start with a := 0x81 } [0x0A] []) = some (0x0201, 0x02, bits 0b000001, 2) := by decide

theorem test_R202_lsr : look (fun t => (t.pc, t.byteAt 0x0010, t.p, t.cycles))
    (stored start [0x46, 0x10] [(0x0010, 0x03)]) = some (0x0202, 0x01, bits 0b000001, 5) := by decide

theorem test_R203_rol : look (fun t => (t.pc, t.a, t.p, t.cycles))
    (stored { start with a := 0x80, p := bits 0b000001 } [0x2A] []) =
    some (0x0201, 0x01, bits 0b000001, 2) := by decide

theorem test_R204_ror : look (fun t => (t.pc, t.byteAt 0x1300, t.p, t.cycles))
    (stored { start with x := 0x01, p := bits 0b000001 } [0x7E, 0xFF, 0x12] [(0x1300, 0x02)]) =
    some (0x0203, 0x81, bits 0b100000, 7) := by decide

theorem test_R210_inc : look (fun t => (t.pc, t.byteAt 0x0010, t.p, t.cycles))
    (stored { start with p := bits 0b000000 } [0xE6, 0x10] [(0x0010, 0xFF)]) =
    some (0x0202, 0x00, bits 0b000010, 5) := by decide

theorem test_R211_dec : look (fun t => (t.pc, t.byteAt 0x1300, t.p, t.cycles))
    (stored { start with x := 0x01 } [0xDE, 0xFF, 0x12] [(0x1300, 0x00)]) =
    some (0x0203, 0xFF, bits 0b100000, 7) := by decide

theorem test_R212_inx : look (fun t => (t.pc, t.x, t.p, t.cycles))
    (stored { start with x := 0xFF } [0xE8] []) = some (0x0201, 0x00, bits 0b000010, 2) := by decide

theorem test_R213_dex : look (fun t => (t.pc, t.x, t.p, t.cycles))
    (stored { start with x := 0x03 } [0xCA] []) = some (0x0201, 0x02, bits 0b000000, 2) := by decide

theorem test_R214_iny : look (fun t => (t.pc, t.y, t.p, t.cycles))
    (stored { start with y := 0x7F } [0xC8] []) = some (0x0201, 0x80, bits 0b100000, 2) := by decide

theorem test_R215_dey : look (fun t => (t.pc, t.y, t.p, t.cycles))
    (stored { start with y := 0x00 } [0x88] []) = some (0x0201, 0xFF, bits 0b100000, 2) := by decide

theorem test_R221_bcc : look (fun t => (t.pc, t.p, t.cycles))
    (stored { start with p := bits 0b000000 } [0x90, 0x10] []) = some (0x0212, bits 0b000000, 3) := by decide

theorem test_R222_bcs : look (fun t => (t.pc, t.p, t.cycles))
    (stored { start with p := bits 0b000000 } [0xB0, 0x10] []) = some (0x0202, bits 0b000000, 2) := by decide

theorem test_R223_bne : look (fun t => (t.pc, t.p, t.cycles))
    (stored { start with pc := 0x0011, p := bits 0b000000 } [0xD0, 0xFD] []) =
    some (0x0010, bits 0b000000, 3) := by decide

theorem test_R224_beq : look (fun t => (t.pc, t.p, t.cycles))
    (stored { start with pc := 0x02F0, p := bits 0b000010 } [0xF0, 0x7F] []) =
    some (0x0371, bits 0b000010, 4) := by decide

theorem test_R225_bpl : look (fun t => (t.pc, t.p, t.cycles))
    (stored { start with pc := 0xFFFE, p := bits 0b000000 } [0x10, 0x01] []) =
    some (0x0001, bits 0b000000, 3) := by decide

theorem test_R226_bmi : look (fun t => (t.pc, t.p, t.cycles))
    (stored { start with pc := 0x0000, p := bits 0b100000 } [0x30, 0xFD] []) =
    some (0xFFFF, bits 0b100000, 4) := by decide

theorem test_R227_bvc : look (fun t => (t.pc, t.p, t.cycles))
    (stored { start with p := bits 0b000000 } [0x50, 0xFE] []) = some (0x0200, bits 0b000000, 3) := by decide

theorem test_R228_bvs : look (fun t => (t.pc, t.p, t.cycles))
    (stored { start with p := bits 0b010000 } [0x70, 0x80] []) = some (0x0182, bits 0b010000, 4) := by decide

theorem test_R240a_jmp : look (fun t => (t.pc, t.cycles))
    (stored start [0x4C, 0x34, 0x12] []) = some (0x1234, 3) := by decide

theorem test_R240b_jmp : look (fun t => (t.pc, t.cycles))
    (stored start [0x6C, 0xFF, 0x12] [(0x12FF, 0x34), (0x1200, 0x56), (0x1300, 0x78)]) = some (0x5634, 5) := by decide

theorem test_R241_jsr : look (fun t => (t.pc, t.sp, [t.byteAt 0x0100, t.byteAt 0x01FF], t.cycles))
    (stored { start with pc := 0x0000, sp := 0x00 } [0x20, 0x06, 0x00] []) =
    some (0x0006, 0xFE, [0x00, 0x02], 6) := by decide

theorem test_R242_rts : look (fun t => (t.pc, t.sp, t.cycles))
    (stored { start with pc := 0x0006, sp := 0xFE } [0x60] [(0x01FF, 0x02), (0x0100, 0x00)]) =
    some (0x0003, 0x00, 6) := by decide

theorem test_R243_brk : look (fun t => (t.pc, t.sp, [t.byteAt 0x01FD, t.byteAt 0x01FC, t.byteAt 0x01FB], t.p, t.cycles))
    (stored { start with pc := 0x0300, p := bits 0b000001 } [0x00] [(0xFFFE, 0x00), (0xFFFF, 0x80)]) =
    some (0x8000, 0xFA, [0x03, 0x02, 0x31], bits 0b000101, 7) := by decide

theorem test_R244_rti : look (fun t => (t.pc, t.sp, t.p, t.cycles))
    (stored { start with pc := 0x8000, sp := 0xFA, p := bits 0b000100 } [0x40] [(0x01FB, 0x31), (0x01FC, 0x02), (0x01FD,
      0x03)]) =
    some (0x0302, 0xFD, bits 0b000001, 6) := by decide

theorem test_R250_clc : look (fun t => (t.pc, t.p, t.cycles))
    (stored { start with p := bits 0b000001 } [0x18] []) = some (0x0201, bits 0b000000, 2) := by decide

theorem test_R251_sec : look (fun t => (t.pc, t.p, t.cycles))
    (stored { start with p := bits 0b000000 } [0x38] []) = some (0x0201, bits 0b000001, 2) := by decide

theorem test_R252_cld : look (fun t => (t.pc, t.p, t.cycles))
    (stored { start with p := bits 0b001000 } [0xD8] []) = some (0x0201, bits 0b000000, 2) := by decide

theorem test_R253_sed : look (fun t => (t.pc, t.p, t.cycles))
    (stored { start with p := bits 0b000000 } [0xF8] []) = some (0x0201, bits 0b001000, 2) := by decide

theorem test_R254_cli : look (fun t => (t.pc, t.p, t.cycles))
    (stored { start with p := bits 0b000100 } [0x58] []) = some (0x0201, bits 0b000000, 2) := by decide

theorem test_R255_sei : look (fun t => (t.pc, t.p, t.cycles))
    (stored { start with p := bits 0b000000 } [0x78] []) = some (0x0201, bits 0b000100, 2) := by decide

theorem test_R256_clv : look (fun t => (t.pc, t.p, t.cycles))
    (stored { start with p := bits 0b010000 } [0xB8] []) = some (0x0201, bits 0b000000, 2) := by decide

theorem test_R258_nop : look (fun t => (t.pc, t.cycles))
    (stored start [0xEA] []) = some (0x0201, 2) := by decide

theorem test_R259_undef : look (fun t => (t.pc, t.a, t.cycles))
    (stored { start with a := 0x55, x := 0x01 } [0xFF, 0x10, 0x20] []) = some (0x0201, 0x55, 0) := by decide

/-! ## Instructions, interrupts and halt: vectors of 95_test_vectors.md -/

theorem test_V8_lda : look (fun t => (t.pc, t.a, t.cycles))
    (stored { start with x := 0xFF } [0xA1, 0x00] [(0x0000, 0x12), (0x00FF, 0x34), (0x0100, 0x99), (0x1234, 0x07)]) =
    some (0x0202, 0x07, 6) := by decide

theorem test_V14_fetch_wraps : look (fun t => (t.pc, t.a, t.cycles))
    (stored { start with pc := 0xFFFF } [0xA9] [(0x0000, 0x42)]) = some (0x0001, 0x42, 2) := by decide

theorem test_V19_sta : look (fun t => (t.pc, t.byteAt 0x0010, t.p, t.cycles))
    (stored { start with a := 0x00, p := bits 0b100000 } [0x85, 0x10] [(0x0010, 0xFF)]) =
    some (0x0202, 0x00, bits 0b100000, 3) := by decide

theorem test_V27_txs : look (fun t => (t.pc, t.sp, t.p, t.cycles))
    (stored { start with x := 0x00, p := bits 0b100000 } [0x9A] []) =
    some (0x0201, 0x00, bits 0b100000, 2) := by decide

theorem test_V28_pha : look (fun t => (t.pc, t.sp, t.byteAt 0x0100, t.cycles))
    (stored { start with sp := 0x00, a := 0xAB } [0x48] []) = some (0x0201, 0xFF, 0xAB, 3) := by decide

theorem test_V29_pla : look (fun t => (t.pc, [t.sp, t.a], t.p, t.cycles))
    (stored { start with sp := 0xFF, a := 0x01 } [0x68] [(0x0100, 0x00)]) =
    some (0x0201, [0x00, 0x00], bits 0b000010, 4) := by decide

theorem test_V33_plp : look (fun t => (t.pc, t.sp, t.p, t.cycles))
    (stored { start with sp := 0xFC, p := bits 0b111111 } [0x28] [(0x01FD, 0x30)]) =
    some (0x0201, 0xFD, bits 0b000000, 4) := by decide

theorem test_V47_sbc : look (fun t => (t.pc, t.a, t.p, t.cycles))
    (stored { start with a := 0x10, p := bits 0b001001 } [0xE9, 0x01] []) =
    some (0x0202, 0x0F, bits 0b001001, 2) := by decide

theorem test_V51_cmp : look (fun t => (t.pc, t.p, t.cycles))
    (stored { start with a := 0xFF, p := bits 0b010000 } [0xC9, 0x00] []) =
    some (0x0202, bits 0b110001, 2) := by decide

theorem test_V53_cpy : look (fun t => (t.pc, t.p, t.cycles))
    (stored { start with y := 0x7F } [0xC0, 0x80] []) = some (0x0202, bits 0b100000, 2) := by decide

theorem test_V55_and : look (fun t => (t.pc, t.a, t.p, t.cycles))
    (stored { start with a := 0xFF, p := bits 0b010001 } [0x29, 0x80] []) =
    some (0x0202, 0x80, bits 0b110001, 2) := by decide

theorem test_V61_bit : look (fun t => (t.pc, t.p, t.cycles))
    (stored { start with a := 0xFF, p := bits 0b110000 } [0x2C, 0x34, 0x12] [(0x1234, 0x3F)]) =
    some (0x0203, bits 0b000000, 4) := by decide

theorem test_V63_asl : look (fun t => (t.pc, t.a, t.p, t.cycles))
    (stored { start with a := 0x41, p := bits 0b000001 } [0x0A] []) =
    some (0x0201, 0x82, bits 0b100000, 2) := by decide

theorem test_V66_lsr : look (fun t => (t.pc, t.byteAt 0x1300, t.p, t.cycles))
    (stored { start with x := 0x01 } [0x5E, 0xFF, 0x12] [(0x1300, 0xFE)]) =
    some (0x0203, 0x7F, bits 0b000000, 7) := by decide

theorem test_V69_rol : look (fun t => (t.pc, t.byteAt 0x0012, t.p, t.cycles))
    (stored { start with x := 0x02, p := bits 0b000001 } [0x36, 0x10] [(0x0012, 0x40)]) =
    some (0x0202, 0x81, bits 0b100000, 6) := by decide

theorem test_V73_inc : look (fun t => (t.pc, t.byteAt 0x000F, t.p, t.cycles))
    (stored { start with x := 0x10, p := bits 0b010001 } [0xF6, 0xFF] [(0x000F, 0x7F)]) =
    some (0x0202, 0x80, bits 0b110001, 6) := by decide

theorem test_V78_iny : look (fun t => (t.pc, t.y, t.p, t.cycles))
    (stored { start with y := 0xFF, p := bits 0b000000 } [0xC8] []) =
    some (0x0201, 0x00, bits 0b000010, 2) := by decide

theorem test_V91_bcc : look (fun t => (t.pc, t.p, t.cycles))
    (stored { start with pc := 0x02FE, p := bits 0b000000 } [0x90, 0xFD] []) =
    some (0x02FD, bits 0b000000, 4) := by decide

theorem test_V93_bne : look (fun t => (t.pc, t.p, t.cycles))
    (stored { start with p := bits 0b000000 } [0xD0, 0x80] []) = some (0x0182, bits 0b000000, 4) := by decide

theorem test_V96_jsr : look (fun t => (t.pc, t.sp, [t.byteAt 0x01FD, t.byteAt 0x01FC], t.cycles))
    (stored { start with pc := 0xFFFE } [0x20, 0x34, 0x12] []) = some (0x1234, 0xFB, [0x00, 0x00], 6) := by decide

theorem test_V97_rts : look (fun t => (t.pc, t.sp, t.cycles))
    (stored { start with sp := 0xFB } [0x60] [(0x01FC, 0xFF), (0x01FD, 0xFF)]) = some (0x0000, 0xFD, 6) := by decide

theorem test_V98_brk : look (fun t => (t.pc, t.sp, [t.byteAt 0x01FD, t.byteAt 0x01FC, t.byteAt 0x01FB], t.p, t.cycles))
    (stored { start with pc := 0xFFFF, p := bits 0b111011 } [0x00] [(0xFFFE, 0x00)]) =
    some (0x0000, 0xFA, [0x00, 0x01, 0xFB], bits 0b111111, 7) := by decide

theorem test_V101_rti : look (fun t => (t.pc, t.sp, t.p, t.cycles))
    (stored { start with sp := 0xFF, p := bits 0b000100 } [0x40] [(0x0100, 0x00), (0x0101, 0x34), (0x0102, 0x12)]) =
    some (0x1234, 0x02, bits 0b000000, 6) := by decide

theorem test_V110_irq : look (fun t => ((t.irqPending, t.pc), [t.sp, t.x], [t.byteAt 0x01FD, t.byteAt 0x01FC,
    t.byteAt 0x01FB], t.p, t.cycles))
    (stored { start with irqPending := true, p := bits 0b110001 } [0xEA] [(0x8000, 0xE8), (0xFFFE, 0x00), (0xFFFF,
      0x80)]) =
    some ((false, 0x8001), [0xFA, 0x01], [0x02, 0x00, 0xE1], bits 0b010101, 9) := by decide

theorem test_V111_nmi_first : look (fun t => (((t.irqPending, t.nmiPending), t.pc), t.sp, [t.byteAt 0x01FD, t.byteAt 0x01FC,
    t.byteAt 0x01FB], t.p, t.cycles))
    (stored { start with irqPending := true, nmiPending := true, p := bits 0b000100 } [0xEA] [(0x9000, 0x58), (0xFFFA,
      0x00), (0xFFFB, 0x90)]) =
    some (((true, false), 0x9001), 0xFA, [0x02, 0x00, 0x24], bits 0b000000, 9) := by decide

theorem test_V112_irq_to_undefined : look (fun t => ((t.irqPending, t.pc), t.sp,
    [t.byteAt 0x01FD, t.byteAt 0x01FC, t.byteAt 0x01FB], t.p, t.cycles))
    (stored { start with irqPending := true, p := bits 0b000000 } [0xEA] [(0x8000, 0x02), (0xFFFE, 0x00), (0xFFFF,
      0x80)]) =
    some ((false, 0x8001), 0xFA, [0x02, 0x00, 0x20], bits 0b000100, 7) := by decide

theorem test_V113_irq_masked : look (fun t => (t.irqPending, t.pc, t.p, t.cycles))
    (stored { start with irqPending := true, p := bits 0b000100 } [0x58] []) =
    some (true, 0x0201, bits 0b000000, 2) := by decide

theorem test_V114_halt : look (fun t => (t.irqPending, t.pc, t.p, t.cycles, t.status))
    (stored { start with irqPending := true, haltReq := true, p := bits 0b000000 } [0xE8] []) =
    some (true, 0x0200, bits 0b000000, 0, .haltRequested) := by decide

theorem test_V108_undef : look (fun t => (t.pc, t.cycles, t.status))
    (stored { start with cfg := { Config.default with strictIllegal := true } } [0xFF] []) =
    some (0x0201, 0, .illegalOpcode 0xFF) := by decide

/-- R292, by its transactions too: P3 of 95_test_vectors.md, step 6. -/
theorem test_P3_step6_irq_bus :
    look (fun t => (t.pc, t.cycles, t.bus))
      (stored { start with pc := 0x8006, sp := 0xFF, x := 0x01, irqPending := true } []
        [(0x9000, 0x48), (0xFFFF, 0x90)]) =
    some (0x9001, 10, [.write 0x01FF 0x80, .write 0x01FE 0x06, .write 0x01FD 0x20, .read 0xFFFE 0x00, .read 0xFFFF 0x90,
      .read 0x9000 0x48, .write 0x01FC 0x00]) := by decide

/-- S5 of 95_test_vectors.md, step 1: the transactions of a JSR across the wrap of SP. -/
theorem test_S5_step1_jsr_bus :
    look (fun t => (t.pc, t.sp, t.bus)) (stored { start with pc := 0x0000, sp := 0x00 } [0x20, 0x06, 0x00] []) =
    some (0x0006, 0xFE, [.read 0x0000 0x20, .read 0x0001 0x06, .read 0x0002 0x00, .write 0x0100 0x00,
      .write 0x01FF 0x02]) := by decide

/-! ## Reset, events, the bus -/

/-- R304: its example. -/
theorem test_R304_reset :
    (next? (applyEvent .reset (stored start [] [(0xFFFD, 0x80)]))).map
      (fun t => (t.pc, t.sp, t.p, t.bus)) =
    some (0x8000, 0xFD, bits 0b000100, [.read 0xFFFC 0x00, .read 0xFFFD 0x80]) := by decide

theorem test_reset_memory_wf : Memory.wf State.reset.mem = true := by decide

/-- R42. -/
theorem test_R42_step_before_reset :
    refusal? (step (State.constructed Config.default [])) = some .beforeFirstReset := by decide

/-- R70: the operand fetch fails, and the opcode fetch before it does not. -/
theorem test_R70_bus_fault :
    fault? (step (stored { start with cfg := { Config.default with failingAddrs := [0x0300, 0x0201] } } [0xAD, 0x00, 0x03]
      [])) = some (.busFault 0x0201) := by decide

/-- R70: an address that the step does not touch. -/
theorem test_R70_no_fault :
    look (fun t => (t.a, t.pc))
      (stored { start with cfg := { Config.default with failingAddrs := [0x0300] } } [0xA9, 0x42] []) =
    some (0x42, 0x0202) := by decide

/-- R64: memory written by the environment is what the next step reads. -/
theorem test_R64_poke :
    (next? (applyEvent (.poke 0x0200 0xE8) start)).bind (look (fun t => (t.x, t.pc))) = some (0x01, 0x0201) := by decide

/-- R53: device space from $8000 up, and one address in zero page, as a platform could lay them out. -/
def platform : State :=
  { start with device := [7], cfg := { Config.default with substituted := [(0x8000, 0xFFFF), (0x0010, 0x0010)] } }

theorem test_R53_ranges :
    [0x7FFF, 0x8000, 0xFFFF, 0x000F, 0x0010, 0x0011].map platform.cfg.substitutes =
    [false, true, true, false, true, false] := by decide

/-- R9: by default the memory of R52 serves every address. -/
theorem test_R9_default_bus : [0x0000, 0x8000, 0xFFFF].map State.reset.cfg.substitutes = [false, false, false] := by decide

/-- R53: the byte and the bus's next state are what the substituted pair answers to the state it had. -/
theorem test_R53_read :
    (memRead platform 0x8000).1 = (Config.busRead [7] 0x8000).value ∧
    (memRead platform 0x8000).2.device = (Config.busRead [7] 0x8000).device := ⟨rfl, rfl⟩

/-- R53: a store to device space leaves the default memory as it was; one beside it does not reach the device. -/
theorem test_R53_write :
    (memWrite platform 0x8000 0x42).mem = platform.mem ∧
    (memWrite platform 0x8000 0x42).device = (Config.busWrite [7] 0x8000 0x42).device ∧
    ((memWrite platform 0x7FFF 0x42).byteAt 0x7FFF, (memWrite platform 0x7FFF 0x42).device) = (0x42, [7]) :=
  ⟨rfl, rfl, by decide⟩

/-- R52, R53: an instruction that touches no device address runs as over the default memory. -/
theorem test_R53_beside_device :
    look (fun t => (t.a, t.pc, t.bus)) (stored platform [0xA5, 0x0F] [(0x000F, 0x99)]) =
    some (0x99, 0x0202, [.read 0x0200 0xA5, .read 0x0201 0x0F, .read 0x000F 0x99]) := by decide

/-- R70: a failure that the substituted bus signals ends the event, at its place among the transactions. -/
theorem test_R70_substituted_failure :
    fault? (failAtBus (.next { start with bus := [.read 0x0200 0xAD, .failed 0x8000, .failed 0x8001] })) =
    some (.busFault 0x8000) := by decide

theorem test_setDevice :
    (next? (applyEvent (.setDevice [1, 2]) platform)).map (fun t => (t.device, t.pc)) = some ([1, 2], 0x0200) := by decide

/-- Equal memories are equal data: writing what an unlisted address reads as takes the cell away. -/
theorem test_memory_write_zero_removes : Memory.write [(1, 0x11), (2, 0x22)] 2 0x00 = [(1, 0x11)] := by decide

theorem test_memory_write_keeps_order :
    Memory.write [(1, 0x11), (9, 0x99)] 5 0x55 = [(1, 0x11), (5, 0x55), (9, 0x99)] := by decide

theorem test_memory_wf_refuses_disorder : Memory.wf [(2, 0x22), (1, 0x11)] = false := by decide

theorem test_memory_wf_refuses_listed_zero : Memory.wf [(2, 0x00)] = false := by decide

/-- The instruction that `withFetchWord` places runs as the first after reset; at the top of memory it wraps. -/
theorem test_withFetchWord_after_reset :
    look (fun t => (t.a, t.pc)) (State.reset.withFetchWord 16 0x42A9) = some (0x42, 0x0002) := by decide

theorem test_withFetchWord_wraps :
    look (fun t => (t.a, t.pc)) (State.withFetchWord { start with pc := 0xFFFF, haltReq := true } 16 0x42A9) =
    some (0x42, 0x0001) := by decide

/-- What `withFetchWord` places is fetched from the default memory, also where a platform's device was. -/
theorem test_withFetchWord_over_device :
    look (fun t => (t.a, t.pc)) (State.withFetchWord { platform with pc := 0x8000 } 16 0x42A9) =
    some (0x42, 0x8002) := by decide

theorem test_core_is_the_step : core.reset = State.reset := rfl

/-! ## Witnesses: for each statement with hypotheses, a state and operands that meet them all -/

/-- A state with I set, other flags set and clear, outputs of an earlier step, and a store at PC. -/
def busy : State :=
  stored { start with sp := 0x00, a := 0xF0, x := 0x03, y := 0x80, p := bits 0b110101, cycles := 9,
                      status := .haltRequested, bus := [.read 0x1234 0x56] }
    [0x8D, 0x03, 0x02] [(0x0100, 0x12), (0x01FF, 0x34), (0xFFFE, 0x00), (0xFFFF, 0x80), (0xFFFA, 0x01), (0xFFFB, 0x90)]

def strict : State := { busy with cfg := { Config.default with strictIllegal := true } }

/-- BranchesTestOneFlag: a branch not taken and one taken, for every flag tested, in the one state or the other. -/
theorem witness_branches :
    ([busy.p.c, busy.p.n, busy.p.v] = [true, true, true] ∧ busy.p.z = false) ∧
    [start.p.c, start.p.n, start.p.v] = [false, false, false] ∧
    ({ start with p := bits 0b000010 } : State).p.z = true := by decide

/-- UndefinedOpcodesDoNothing: the first and the last of the bytes, and both policies. -/
theorem witness_undefined :
    0x02 ∈ undefinedOpcodes ∧ 0xFF ∈ undefinedOpcodes ∧ busy.cfg.strictIllegal = false ∧
    strict.cfg.strictIllegal = true := by decide

/-- SbcUndoesAdcWithInvertedCarry. -/
theorem witness_sbc_adc :
    exec (.adc (.imm 0x20)) busy = .next (nextOf (exec (.adc (.imm 0x20)) busy)) ∧
    (let t := nextOf (exec (.adc (.imm 0x20)) busy)
     let s' := { t with p := { t.p with c := !busy.p.c } }
     exec (.sbc (.imm 0x20)) s' = .next (nextOf (exec (.sbc (.imm 0x20)) s'))) := ⟨rfl, rfl⟩

/-- PullUndoesPush, across the wrap of SP. -/
theorem witness_push :
    busy.OnRam ∧ exec .pha busy = .next (nextOf (exec .pha busy)) ∧ exec .php busy = .next (nextOf (exec .php busy)) :=
  ⟨rfl, rfl, rfl⟩

/-- The clauses under `OnRam` of the statements that have one: busy is over the default memory, platform is not. -/
theorem witness_onRam : busy.OnRam ∧ ¬ platform.OnRam := by simp only [State.OnRam]; decide

/-- RtsUndoesJsr, across the wrap of SP; the RTS starts elsewhere with other registers. -/
theorem witness_jsr_rts :
    busy.OnRam ∧ exec (.jsr 0x1234) busy = .next (nextOf (exec (.jsr 0x1234) busy)) ∧
    (let t := nextOf (exec (.jsr 0x1234) busy)
     let t' := { t with pc := 0x4000, a := 0x01 }
     t'.OnRam ∧ t'.sp = t.sp ∧ t'.byteAt (slot busy.sp) = t.byteAt (slot busy.sp) ∧
       t'.byteAt (slot (busy.sp - 1)) = t.byteAt (slot (busy.sp - 1))) := ⟨rfl, rfl, rfl, rfl, rfl, rfl⟩

/-- MemoryIsReadAfterWrite: addresses on either side of the end of a range that the substituted pair serves, and the ends of
the address space. -/
theorem witness_substitutes :
    [0x7FFF, 0x0000].map platform.cfg.substitutes = [false, false] ∧
    [0x8000, 0xFFFF].map platform.cfg.substitutes = [true, true] := by decide

/-- MemoryIsReadAfterWrite, with a memory that lists cells at both ends. -/
theorem witness_memory_wf : Memory.wf (stored start [] [(0xFFFF, 0x01), (0x0000, 0x02)]).mem = true := by decide

/-- CanonicalMemoriesAreExtensional: two canonical memories that read alike, made by writes in another order. -/
theorem witness_canonical :
    Memory.wf (Memory.write (Memory.write [] 7 0x70) 3 0x30) = true ∧
    Memory.wf (Memory.write (Memory.write [] 3 0x30) 7 0x70) = true ∧
    ∀ a : Word, Memory.read (Memory.write (Memory.write [] 7 0x70) 3 0x30) a.toNat =
      Memory.read (Memory.write (Memory.write [] 3 0x30) 7 0x70) a.toNat :=
  ⟨by decide, by decide, fun _ => rfl⟩

/-- DecodeInvertsEncode, at the ends of an operand's range and for an undefined byte. -/
theorem witness_wellFormed :
    Instr.wellFormed (.jmp (.ind 0xFFFF)) = true ∧ Instr.wellFormed (.lda (.imm 0x00)) = true ∧
    Instr.wellFormed (.undef 0xFF) = true := by decide

/-- DecodeIsTotalAndExact, with bytes left over and with none. -/
theorem witness_decode :
    decode [0x6C, 0xFF, 0x12] = .ok (.jmp (.ind 0x12FF), []) ∧ decode [0xEA, 0x00] = .ok (.nop, [0x00]) := by decide

/-- StepRunsTheDecodedInstruction: without an interrupt, and with one that is taken first. -/
theorem witness_step_decodes :
    busy.started = true ∧ busy.haltReq = false ∧ busy.OnDefaultBus ∧ NoEntry busy ∧
    decode (bytesAtPC busy) = .ok (.sta (.abs 0x0203), []) := ⟨rfl, rfl, ⟨rfl, rfl⟩, ⟨rfl, .inl rfl⟩, by decide⟩

/-- StepRunsTheDecodedInstruction, its clause over any bus: program in the default memory, device space elsewhere. -/
theorem witness_step_decodes_beside_device :
    let s : State := stored platform [0x8D, 0x00, 0x80] []
    s.started = true ∧ s.haltReq = false ∧ ¬ s.OnDefaultBus ∧
    decode (fetched (Instr.sta (.abs 0x8000)).length (sampleInterrupts { s with cycles := 0, status := .ok, bus := [] })).1 =
      .ok (.sta (.abs 0x8000), []) := ⟨rfl, rfl, by simp only [State.OnDefaultBus]; decide, by decide⟩

theorem witness_step_decodes_after_entry :
    let s : State := { busy with nmiPending := true }
    s.started = true ∧ s.haltReq = false ∧ s.OnDefaultBus ∧
    decode (bytesAtPC (sampleInterrupts { s with cycles := 0, status := .ok, bus := [] })) = .ok (.brk, [0x00, 0x00]) :=
  ⟨rfl, rfl, ⟨rfl, rfl⟩, by decide⟩

/-- InterruptSamplingPriority: its three clauses. -/
theorem witness_sampling :
    ({ busy with nmiPending := true } : State).nmiPending = true ∧
    (let s : State := { start with irqPending := true }
     s.nmiPending = false ∧ s.irqPending = true ∧ s.p.i = false) ∧
    NoEntry { busy with irqPending := true } ∧ NoEntry start :=
  ⟨rfl, ⟨rfl, rfl, rfl⟩, ⟨rfl, .inr rfl⟩, ⟨rfl, .inl rfl⟩⟩

/-- RtiUndoesInterruptEntry. -/
theorem witness_brk : busy.OnRam ∧ exec .brk busy = .next (nextOf (exec .brk busy)) := ⟨rfl, rfl⟩

/-- HaltedStepChangesNothing. -/
theorem witness_halted :
    let s : State := { busy with haltReq := true, nmiPending := true }
    s.started = true ∧ s.haltReq = true := by decide

/-- StepStatus, StepCycles, StepClearsLatchOnlyWhenTaken, StepKeepsInvariant: a step that halts, one that takes an entry,
and one that meets an undefined opcode under STRICT_ILLEGAL. -/
theorem witness_steps :
    let halted : State := { busy with haltReq := true }
    let entered : State := { busy with nmiPending := true, irqPending := true }
    let illegal : State := stored strict [0x02] []
    step halted = .next (nextOf (step halted)) ∧ step entered = .next (nextOf (step entered)) ∧
    step illegal = .next (nextOf (step illegal)) := ⟨rfl, rfl, rfl⟩

theorem witness_steps_invariant :
    ({ busy with haltReq := true } : State).Inv ∧ ({ busy with nmiPending := true, irqPending := true } : State).Inv ∧
    (stored strict [0x02] []).Inv := ⟨⟨rfl, by decide, rfl⟩, ⟨rfl, by decide, rfl⟩, ⟨rfl, by decide, rfl⟩⟩

/-- StepCycles: an entry and a penalty in one step, 7 + 4 + 1. -/
theorem witness_cycles_entry_and_penalty :
    look (fun t => t.cycles) (stored { start with irqPending := true, x := 0xFF } []
      [(0xFFFF, 0x80), (0x8000, 0xBD), (0x8001, 0x01)]) = some 12 := by decide

/-- BusFaultEndsTheStep: both parts of both clauses, for one step that would read $0200, $0201, $0202 and write $0203. -/
theorem witness_bus_fault :
    let s : State := { busy with cfg := { Config.default with failingAddrs := [0x0203, 0x0202] } }
    let r : State := { busy with cfg := { Config.default with failingAddrs := [0x0204] } }
    s.started = true ∧ s.haltReq = false ∧
    (let r := fetchInstr (sampleInterrupts { s with cycles := 0, status := .ok, bus := [] })
     (next? (exec r.1 { r.2 with cycles := r.2.cycles + baseCycles r.1 })).map (fun u => u.bus) =
      some ([.read 0x0200 0x8D, .read 0x0201 0x03] ++ .read 0x0202 0x02 :: [.write 0x0203 0xF0])) ∧
    (next? (step { s with cfg := { s.cfg with failingAddrs := [] } })).map (fun t => t.bus) =
      some ([.read 0x0200 0x8D, .read 0x0201 0x03] ++ .read 0x0202 0x02 :: [.write 0x0203 0xF0]) ∧
    (∀ x ∈ [BusAccess.read 0x0200 0x8D, BusAccess.read 0x0201 0x03], ¬ FailsAt s.cfg x) ∧
    FailsAt s.cfg (.read 0x0202 0x02) ∧
    (∀ x ∈ [BusAccess.read 0x0200 0x8D, .read 0x0201 0x03, .read 0x0202 0x02, .write 0x0203 0xF0], ¬ FailsAt r.cfg x) := by
  simp only [FailsAt]
  decide

/-- StoreIsSeenByNextFetch: PC past the STA at $0203, which is the address stored to. -/
theorem witness_store_fetch :
    let s : State := { busy with pc := 0x0203 }
    exec (.sta (.abs 0x0203)) s = .next (nextOf (exec (.sta (.abs 0x0203)) s)) ∧
    (locate s (StaOperand.abs 0x0203).addr).addr = s.pc ∧ s.cfg.substitutes s.pc = false := ⟨rfl, rfl, rfl⟩

/-- ResetSequenceValues, from a block before its first reset too. -/
theorem witness_default_bus : busy.OnDefaultBus ∧ (State.constructed Config.default []).OnDefaultBus :=
  ⟨⟨rfl, rfl⟩, ⟨rfl, rfl⟩⟩

/-- NothingBeforeFirstReset. -/
theorem witness_before_reset : (State.constructed Config.default []).started = false := rfl

/-- RequestsSetTheirLatch, SnapshotShowsRegisterFile. -/
theorem witness_started : busy.started = true := rfl

/-- PlacedInstructionRunsNext. -/
theorem witness_placed : decodeTableWord 24 0x0203AD = some (.lda (.abs 0x0203)) := by decide

/-- RegistersChangeOnlyByTheirWriters, FlagsChangeOnlyByTheirWriters: the premise of each clause. -/
theorem witness_non_writers :
    writesA (.cmp (.imm 0x00)) = false ∧ writesA (.asl (.zp 0x00)) = false ∧ writesX .txs = false ∧
    writesY .tya = false ∧ writesSP .tsx = false ∧ writesPC .nop = false ∧ writesNZ (.sta (.zp 0x10)) = false ∧
    writesC (.inc (.zp 0x10)) = false ∧
    writesV (.cmp (.imm 0x00)) = false ∧ writesD .brk = false ∧ writesI .php = false := by decide

/-- MemoryChangesOnlyWhereStored: an address beside the one stored to, and one where nothing is stored. -/
theorem witness_not_stored :
    (0x0204 : Word) ∉ storedAddrs (.sta (.abs 0x0203)) busy ∧
    (0x0203 : Word) ∉ storedAddrs (.lda (.abs 0x0203)) busy := by
  decide

/-- DecimalFlagIsOnlyPushed, for an instruction that leaves D and for one that writes it. -/
theorem witness_decimal :
    pushesP (.adc (.imm 0x01)) = false ∧ exec (.adc (.imm 0x01)) busy = .next (nextOf (exec (.adc (.imm 0x01)) busy)) ∧
    pushesP .plp = false ∧ exec .plp busy = .next (nextOf (exec .plp busy)) := ⟨rfl, rfl, rfl, rfl⟩

/-- NoRunOfEventsStops: its clause over the default memory, and its clause over any bus. -/
theorem witness_run : busy.Inv ∧ busy.OnDefaultBus ∧ platform.Inv :=
  ⟨⟨rfl, by decide, rfl⟩, ⟨rfl, rfl⟩, ⟨rfl, by decide, rfl⟩⟩

end Sys2Proof.Tests
end

/-! The statements of 10_state.md: what `exec` leaves alone and what D can affect, each said once for all instructions, and
what a step does to the latches. -/

namespace Sys2Proof.Machine

open Sys2Proof Sys2Proof.Claims

/-! ## The frame of every instruction -/

/-- A branch writes PC and the cycle count only (47_branches.md R220). -/
theorem branchIf_state (taken : Bool) (d : Byte) (s : State) :
    branchIf taken d s = { s with pc := (branchIf taken d s).pc, cycles := (branchIf taken d s).cycles } := by
  cases taken <;> rfl

/-- An undefined opcode writes the status output only (49_flags_nop_undefined.md R259). -/
theorem execUndef_eq (b : Byte) (s : State) :
    execUndef b s = .next { s with status := if s.cfg.strictIllegal then .illegalOpcode b else s.status } := by
  unfold execUndef
  split <;> rfl

/-- `t` with each register and flag that `i` does not write, the latches, `halt_req`, the started bit and the parameters put
back to what they are in `s`: the tables of 10_state.md R21 to R27 and R38 as one function. -/
def restoreUnwritten (i : Instr) (s t : State) : State :=
  { t with
    pc := if writesPC i then t.pc else s.pc
    sp := if writesSP i then t.sp else s.sp
    a := if writesA i then t.a else s.a
    x := if writesX i then t.x else s.x
    y := if writesY i then t.y else s.y
    p :=
      { n := if writesNZ i then t.p.n else s.p.n
        v := if writesV i then t.p.v else s.p.v
        d := if writesD i then t.p.d else s.p.d
        i := if writesI i then t.p.i else s.p.i
        z := if writesNZ i then t.p.z else s.p.z
        c := if writesC i then t.p.c else s.p.c }
    irqPending := s.irqPending
    nmiPending := s.nmiPending
    haltReq := s.haltReq
    started := s.started
    cfg := s.cfg }

/-- Every instruction has a next state, and putting back what it does not write changes nothing there. -/
theorem exec_restoreUnwritten (i : Instr) (s : State) : ∃ t, exec i s = .next t ∧ restoreUnwritten i s t = t := by
  cases i with
  | lda o | ldx o | ldy o | adc o | sbc o | cmp o | cpx o | cpy o | bit o =>
    exact ⟨_, rfl, by rw [load_state]; rfl⟩
  | and o | ora o | eor o => exact ⟨_, congrArg Host.Outcome.next (logicToA_eq _ _ s), rfl⟩
  | sta o | stx o | sty o => exact ⟨_, congrArg Host.Outcome.next (storeByte_state s _ _), rfl⟩
  | inc o | dec o => exact ⟨_, congrArg Host.Outcome.next (modifyByte_state _ _ s), rfl⟩
  | asl o | lsr o | rol o | ror o =>
    cases o with
    | acc => exact ⟨_, rfl, rfl⟩
    | zp d | zpx d | abs w | abx w => exact ⟨_, congrArg Host.Outcome.next (shiftTarget_mem _ _ s), rfl⟩
  | bcc d | bcs d | bne d | beq d | bpl d | bmi d | bvc d | bvs d =>
    exact ⟨_, congrArg Host.Outcome.next (branchIf_state _ d s), rfl⟩
  | jmp o => exact ⟨_, rfl, by rw [locate_state]; rfl⟩
  | undef b => exact ⟨_, execUndef_eq b s, rfl⟩
  | tax | tay | txa | tya | tsx | txs | pha | pla | php | plp | inx | dex | iny | dey | jsr w | rts | brk | rti
  | clc | sec | cld | sed | cli | sei | clv | nop =>
    exact ⟨_, rfl, rfl⟩

/-- Settles O53: PC, SP, A, X, Y, the latches, `halt_req`, the started bit and the parameters of the next state are those of
`restoreUnwritten`. -/
theorem registersChangeOnlyByTheirWriters : Obligations.RegistersChangeOnlyByTheirWriters := by
  intro i s
  obtain ⟨t, ht, hr⟩ := exec_restoreUnwritten i s
  refine ⟨t, ht, ?_⟩
  rw [← hr]
  simp +contextual [restoreUnwritten]

/-- Settles O54: the flags of the next state are those of `restoreUnwritten`. -/
theorem flagsChangeOnlyByTheirWriters : Obligations.FlagsChangeOnlyByTheirWriters := by
  intro i s
  obtain ⟨t, ht, hr⟩ := exec_restoreUnwritten i s
  refine ⟨t, ht, ?_⟩
  rw [← hr]
  simp +contextual [restoreUnwritten]

/-! ## The latches -/

/-- No instruction touches a latch. -/
theorem exec_latches {i : Instr} {s t : State} (h : exec i s = .next t) :
    t.nmiPending = s.nmiPending ∧ t.irqPending = s.irqPending := by
  obtain ⟨u, hu, hr⟩ := exec_restoreUnwritten i s
  obtain rfl : u = t := Host.Outcome.next.inj (hu.symm.trans h)
  rw [← hr]
  exact ⟨rfl, rfl⟩

/-- Fetching and running an instruction touches no latch. -/
theorem runInstr_latches {s t : State} (h : runInstr s = .next t) :
    t.nmiPending = s.nmiPending ∧ t.irqPending = s.irqPending := by
  obtain ⟨hn, hi⟩ := exec_latches h
  rw [hn, hi, State.addCycles_nmiPending, State.addCycles_irqPending, fetchInstr_state]
  exact ⟨rfl, rfl⟩

@[simp] theorem interruptEntry_nmiPending (s : State) (vec : Word) (b : Bool) :
    (interruptEntry s vec b).nmiPending = s.nmiPending := rfl
@[simp] theorem interruptEntry_irqPending (s : State) (vec : Word) (b : Bool) :
    (interruptEntry s vec b).irqPending = s.irqPending := rfl

/-- The sampling of interrupts leaves no NMI pending, and an IRQ only where it could not be taken
(60_exceptions.md R276). -/
theorem sampleInterrupts_latches (s : State) :
    (sampleInterrupts s).nmiPending = false ∧
    (sampleInterrupts s).irqPending = (s.irqPending && (s.nmiPending || s.p.i)) := by
  rcases sampleInterrupts_cases s with ⟨hn, e⟩ | ⟨hn, hq, hi, e⟩ | ⟨hn, hqi, e⟩ <;> rw [e]
  · simp [hn]
  · simp [hn, hi]
  · rcases hqi with hq | hi
    · simp [hn, hq]
    · simp [hn, hi]

/-- The check of the transactions lets a next state through unchanged, or not at all. -/
theorem failAtBus_eq_next {o : Host.Outcome State Fault Refusal} {t : State} (h : failAtBus o = .next t) :
    o = .next t := by
  cases o with
  | next u =>
    simp only [failAtBus] at h
    split at h
    · cases h
    · exact h
  | fault f => exact h
  | refused r => exact h

/-- A step that answers a next state is one that halts or one that runs an instruction after the sampling of interrupts. -/
theorem step_eq_next {s t : State} (h : step s = .next t) :
    (s.haltReq = true ∧ t = s.clearOutputs.setStatus .haltRequested) ∨
    (s.haltReq = false ∧ runInstr (sampleInterrupts s.clearOutputs) = .next t) := by
  unfold step stepSequence at h
  split at h
  · cases hh : s.haltReq with
    | true => exact .inl ⟨rfl, by simpa [hh] using h.symm⟩
    | false => exact .inr ⟨rfl, failAtBus_eq_next (by simpa [hh] using h)⟩
  · cases h

/-- Settles O56: a halt keeps both latches; else the sampling of interrupts decides them, and the instruction keeps them. -/
theorem stepClearsLatchOnlyWhenTaken : Obligations.StepClearsLatchOnlyWhenTaken := by
  intro s t h
  rcases step_eq_next h with ⟨hh, rfl⟩ | ⟨hh, hrun⟩
  · simp [hh, State.clearOutputs]
  · obtain ⟨hn, hi⟩ := runInstr_latches hrun
    obtain ⟨hsn, hsi⟩ := sampleInterrupts_latches s.clearOutputs
    rw [hn, hi, hsn, hsi]
    simp [hh, State.clearOutputs]

/-! ## Another value of D

Each shared operation commutes with setting D: it answers the same bytes, and D passes through. -/

section
variable (s : State) (b : Bool)

@[simp] theorem memRead_setFlagD (a : Word) :
    memRead (s.setFlagD b) a = ((memRead s a).1, (memRead s a).2.setFlagD b) := rfl

@[simp] theorem memWrite_setFlagD (a : Word) (v : Byte) :
    memWrite (s.setFlagD b) a v = (memWrite s a v).setFlagD b := rfl

@[simp] theorem locate_setFlagD (o : AddrOperand) :
    locate (s.setFlagD b) o = { locate s o with state := (locate s o).state.setFlagD b } := by
  cases o <;> rfl

@[simp] theorem load_setFlagD (o : Source) :
    load (s.setFlagD b) o = { load s o with state := (load s o).state.setFlagD b } := by
  cases o with
  | imm v => rfl
  | mem o => simp [load]

@[simp] theorem storeByte_setFlagD (o : AddrOperand) (v : Byte) :
    storeByte (s.setFlagD b) o v = (storeByte s o v).setFlagD b := by
  simp [storeByte]

@[simp] theorem logicToA_setFlagD (op : Byte → Byte → Byte) (o : Source) :
    logicToA op o (s.setFlagD b) = (logicToA op o s).setFlagD b := by
  simp only [logicToA, load_setFlagD]
  rfl

@[simp] theorem modifyByte_setFlagD (f : Byte → Byte) (o : AddrOperand) :
    modifyByte f o (s.setFlagD b) = (modifyByte f o s).setFlagD b := by
  simp only [modifyByte, locate_setFlagD]
  rfl

@[simp] theorem shiftTarget_setFlagD (f : Byte → Bool → Byte × Bool) (o : Target) :
    shiftTarget f o (s.setFlagD b) = (shiftTarget f o s).setFlagD b := by
  cases o with
  | acc => rfl
  | mem o =>
    simp only [shiftTarget, locate_setFlagD]
    rfl

@[simp] theorem branchIf_setFlagD (taken : Bool) (d : Byte) :
    branchIf taken d (s.setFlagD b) = (branchIf taken d s).setFlagD b := by
  cases taken <;> rfl

end

/-- An instruction that pushes no P does the same from a state that differs in D, and D ends as the instruction writes it or
as it was. -/
theorem exec_setFlagD {i : Instr} (s : State) (b : Bool) (hp : pushesP i = false) :
    ∃ t, exec i s = .next t ∧ exec i (s.setFlagD b) = .next (if writesD i then t else t.setFlagD b) := by
  cases i with
  | lda o | ldx o | ldy o | adc o | sbc o | cmp o | cpx o | cpy o | bit o =>
    refine ⟨_, rfl, ?_⟩
    simp only [exec, execLda, execLdx, execLdy, execAdc, execSbc, execCmp, execCpx, execCpy, execBit, load_setFlagD]
    rfl
  | and o | ora o | eor o => exact ⟨_, rfl, congrArg Host.Outcome.next (logicToA_setFlagD s b _ _)⟩
  | sta o | stx o | sty o => exact ⟨_, rfl, congrArg Host.Outcome.next (storeByte_setFlagD s b _ _)⟩
  | inc o | dec o => exact ⟨_, rfl, congrArg Host.Outcome.next (modifyByte_setFlagD s b _ _)⟩
  | asl o | lsr o | rol o | ror o => exact ⟨_, rfl, congrArg Host.Outcome.next (shiftTarget_setFlagD s b _ _)⟩
  | bcc d | bcs d | bne d | beq d | bpl d | bmi d | bvc d | bvs d =>
    exact ⟨_, rfl, congrArg Host.Outcome.next (branchIf_setFlagD s b _ d)⟩
  | jmp o =>
    refine ⟨_, rfl, ?_⟩
    simp only [exec, execJmp, locate_setFlagD]
    rfl
  | undef c => exact ⟨_, execUndef_eq c s, execUndef_eq c (s.setFlagD b)⟩
  | php | brk => cases hp
  | tax | tay | txa | tya | tsx | txs | pha | pla | plp | inx | dex | iny | dey | jsr w | rts | rti
  | clc | sec | cld | sed | cli | sei | clv | nop =>
    exact ⟨_, rfl, rfl⟩

/-- Settles O57: the state with another D is the state with D set. -/
theorem decimalFlagIsOnlyPushed : Obligations.DecimalFlagIsOnlyPushed := by
  intro i s t b hp h
  obtain ⟨u, hu, hd⟩ := exec_setFlagD s b hp
  obtain rfl : u = t := Host.Outcome.next.inj (hu.symm.trans h)
  exact hd

/-! ## The outputs of the last step, and the time before the first reset -/

/-- Settles O43: `step` uses the started bit, `halt_req` and the state with its outputs cleared, and no output. -/
theorem stepReadsNoOutput : Obligations.StepReadsNoOutput := by
  intro s k st l
  simp only [step, stepSequence, State.clearOutputs]

/-- Settles O48: each of the three events and the snapshot tests the started bit first. -/
theorem nothingBeforeFirstReset : Obligations.NothingBeforeFirstReset := by
  refine ⟨fun s hs => ?_, fun _ _ => rfl⟩
  simp [applyEvent, step, irqEvent, nmiEvent, snapshot, hs]

end Sys2Proof.Machine

/-! The statements of 20_memory.md: the two bus operations, where an instruction can change the default memory, and the
failure of the bus. -/

namespace Sys2Proof.Machine

open Sys2Proof Sys2Proof.Claims

/-! ## The two bus operations -/

/-- A read that the substituted pair serves (20_memory.md R53). -/
theorem memRead_substituted {s : State} {a : Word} (h : s.cfg.substitutes a = true) :
    memRead s a = ((Config.busRead s.device a).value,
      { s with
        device := (Config.busRead s.device a).device
        bus := s.bus ++ [readAccess a (Config.busRead s.device a)] }) := by
  simp [memRead, State.busRead, h]

/-- A write that the substituted pair serves: the default memory is as before. -/
theorem memWrite_substituted {s : State} {a : Word} (v : Byte) (h : s.cfg.substitutes a = true) :
    memWrite s a v = { s with
      device := (Config.busWrite s.device a v).device
      bus := s.bus ++ [writeAccess a v (Config.busWrite s.device a v)] } := by
  simp [memWrite, State.busWrite, State.memAfterWrite, h]

/-- A write that the default memory serves, at every address (R52). -/
theorem memWrite_byteAt {s : State} {a : Word} (b : Word) (v : Byte) (h : s.cfg.substitutes a = false) :
    (memWrite s a v).byteAt b = if b = a then v else s.byteAt b := by
  split
  · next hb => rw [hb, memWrite_byteAt_same v h]
  · next hb => exact memWrite_byteAt_ne s a b v hb

/-- Settles O30: the two operations over the default memory and over the substituted pair. -/
theorem memoryIsReadAfterWrite : Obligations.MemoryIsReadAfterWrite := by
  refine ⟨fun s a b v h => memWrite_byteAt b v h, memWrite_wf, fun s a v h => ⟨memRead_ram h, ?_⟩,
    fun s a v h => ⟨memRead_substituted h, memWrite_substituted v h⟩⟩
  rw [memWrite_ram v h]

/-- Settles O32: the value is that of `{h, l}`, and the reads are those of `readWord`. -/
theorem wordsAreLittleEndian : Obligations.WordsAreLittleEndian := by
  intro s a b
  refine ⟨?_, rfl, fun h => ?_⟩
  · rw [readWord, mkWord_toNat]
    omega
  · rw [readWord_ram h, mkWord_toNat]
    exact ⟨by omega, rfl⟩

/-- Settles O50: a byte put in by the environment is one `Memory.write`. -/
theorem environmentChangesOnlyItsOwn : Obligations.EnvironmentChangesOnlyItsOwn := by
  refine ⟨fun s a v => ⟨s.loadBytes a [v], rfl, loadBytes_eq [v] s a, ?_, fun b hb => ?_⟩, fun _ _ => rfl, fun _ _ => rfl⟩
  · exact Memory.read_write_same s.mem a.toNat v
  · exact Memory.read_write_ne s.mem a.toNat b.toNat v (Word.toNat_ne hb)

/-! ## Where an instruction can change the default memory -/

@[simp] theorem load_byteAt (s : State) (o : Source) (b : Word) : (load s o).state.byteAt b = s.byteAt b :=
  byteAt_congr (by rw [load_state]) b

theorem logicToA_byteAt (op : Byte → Byte → Byte) (o : Source) (s : State) (b : Word) :
    (logicToA op o s).byteAt b = s.byteAt b :=
  byteAt_congr (by rw [logicToA_eq]) b

theorem branchIf_byteAt (taken : Bool) (d : Byte) (s : State) (b : Word) :
    (branchIf taken d s).byteAt b = s.byteAt b :=
  byteAt_congr (by rw [branchIf_state]) b

/-- A state whose memory is that of `s` after one write differs from `s` at the address written only. -/
theorem byteAt_of_mem_eq_memAfterWrite {s t : State} {a b : Word} {v : Byte} (h : t.mem = s.memAfterWrite a v)
    (hb : b ≠ a) : t.byteAt b = s.byteAt b :=
  (byteAt_congr (s := memWrite s a v) h b).trans (memWrite_byteAt_ne s a b v hb)

theorem storeByte_byteAt_ne (s : State) (o : AddrOperand) (v : Byte) {b : Word} (hb : b ≠ (locate s o).addr) :
    (storeByte s o v).byteAt b = s.byteAt b :=
  byteAt_of_mem_eq_memAfterWrite (by rw [storeByte_state]) hb

theorem modifyByte_byteAt_ne (f : Byte → Byte) (o : AddrOperand) (s : State) {b : Word}
    (hb : b ≠ (locate s o).addr) : (modifyByte f o s).byteAt b = s.byteAt b :=
  byteAt_of_mem_eq_memAfterWrite (by rw [modifyByte_state]) hb

theorem shiftTarget_mem_byteAt_ne (f : Byte → Bool → Byte × Bool) (o : AddrOperand) (s : State) {b : Word}
    (hb : b ≠ (locate s o).addr) : (shiftTarget f (.mem o) s).byteAt b = s.byteAt b :=
  byteAt_of_mem_eq_memAfterWrite (by rw [shiftTarget_mem]) hb

theorem push8_byteAt_ne (s : State) (v : Byte) {b : Word} (hb : b ≠ stackAddr s.sp) :
    (push8 s v).byteAt b = s.byteAt b :=
  memWrite_byteAt_ne s _ b v hb

theorem push16_byteAt_ne (s : State) (w : Word) {b : Word} (h0 : b ≠ stackAddr s.sp)
    (h1 : b ≠ stackAddr (s.sp - 1)) : (push16 s w).byteAt b = s.byteAt b :=
  (push8_byteAt_ne (push8 s (hiByte w)) (loByte w) h1).trans (push8_byteAt_ne s (hiByte w) h0)

@[simp] theorem push16_sp (s : State) (w : Word) : (push16 s w).sp = s.sp - 2 := by
  have e : s.sp - 1 - 1 = s.sp - 2 := by bv_omega
  exact e

/-- An entry stores to the three stack slots from SP down only (60_exceptions.md R277). -/
theorem interruptEntry_byteAt_ne (s : State) (vec : Word) (p : Bool) {b : Word} (h0 : b ≠ stackAddr s.sp)
    (h1 : b ≠ stackAddr (s.sp - 1)) (h2 : b ≠ stackAddr (s.sp - 2)) :
    (interruptEntry s vec p).byteAt b = s.byteAt b :=
  (push8_byteAt_ne (push16 s s.pc) (packP (push16 s s.pc).p p) (by rwa [push16_sp])).trans
    (push16_byteAt_ne s s.pc h0 h1)

/-- Settles O55: an instruction's accesses are those of the shared operations, each of which stores to the addresses named
for it. -/
theorem memoryChangesOnlyWhereStored : Obligations.MemoryChangesOnlyWhereStored := by
  intro i s
  cases i with
  | lda o | ldx o | ldy o | adc o | sbc o | cmp o | cpx o | cpy o | bit o =>
    exact ⟨_, rfl, fun b _ => by simp⟩
  | and o | ora o | eor o => exact ⟨_, rfl, fun b _ => logicToA_byteAt _ _ s b⟩
  | sta o | stx o | sty o => exact ⟨_, rfl, fun b hb => storeByte_byteAt_ne s _ _ (List.ne_of_not_mem_cons hb)⟩
  | inc o | dec o => exact ⟨_, rfl, fun b hb => modifyByte_byteAt_ne _ _ s (List.ne_of_not_mem_cons hb)⟩
  | asl o | lsr o | rol o | ror o =>
    cases o with
    | acc => exact ⟨_, rfl, fun _ _ => rfl⟩
    | zp d | zpx d | abs w | abx w =>
      exact ⟨_, rfl, fun b hb => shiftTarget_mem_byteAt_ne _ _ s (List.ne_of_not_mem_cons hb)⟩
  | bcc d | bcs d | bne d | beq d | bpl d | bmi d | bvc d | bvs d =>
    exact ⟨_, rfl, fun b _ => branchIf_byteAt _ d s b⟩
  | jmp o => exact ⟨_, rfl, fun b _ => locate_byteAt s _ b⟩
  | undef c => exact ⟨_, execUndef_eq c s, fun _ _ => rfl⟩
  | pha | php => exact ⟨_, rfl, fun b hb => push8_byteAt_ne s _ (List.ne_of_not_mem_cons hb)⟩
  | jsr w =>
    refine ⟨_, rfl, fun b hb => ?_⟩
    obtain ⟨h0, h1⟩ : b ≠ stackAddr s.sp ∧ b ≠ stackAddr (s.sp - 1) := by simpa [storedAddrs] using hb
    exact push16_byteAt_ne s _ h0 h1
  | brk =>
    refine ⟨_, rfl, fun b hb => ?_⟩
    obtain ⟨h0, h1, h2⟩ : b ≠ stackAddr s.sp ∧ b ≠ stackAddr (s.sp - 1) ∧ b ≠ stackAddr (s.sp - 2) := by
      simpa [storedAddrs] using hb
    exact interruptEntry_byteAt_ne (s.setPC (s.pc + 1)) _ _ h0 h1 h2
  | tax | tay | txa | tya | tsx | txs | pla | plp | inx | dex | iny | dey | rts | rti
  | clc | sec | cld | sed | cli | sei | clv | nop =>
    exact ⟨_, rfl, fun _ _ => rfl⟩

/-- Settles O45: the store leaves PC and the parameters alone, so the fetch reads the byte stored. -/
theorem storeIsSeenByNextFetch : Obligations.StoreIsSeenByNextFetch := by
  intro o s t h ha hsub
  obtain rfl : storeByte s o.addr s.a = t := Host.Outcome.next.inj h
  have hpc : (storeByte s o.addr s.a).pc = s.pc := by rw [storeByte_state]
  have hcfg : (storeByte s o.addr s.a).cfg = s.cfg := by rw [storeByte_state]
  have hmem : (storeByte s o.addr s.a).mem = (memWrite s s.pc s.a).mem := by rw [storeByte_state, ha, memWrite_mem]
  refine ⟨?_, ?_⟩
  · rw [fetch8, hpc, memRead_ram (by rw [hcfg, hsub])]
    exact (byteAt_congr hmem s.pc).trans (memWrite_byteAt_same s.a hsub)
  · exact congrArg (· + 1) hpc

/-! ## The failure of the bus

The addresses at which the adapter fails are read by the check of the transactions only: every other part of a step
commutes with setting them. -/

/-- The state over an adapter that fails at the addresses `l`. -/
def State.setFailing (s : State) (l : List Word) : State := { s with cfg := { s.cfg with failingAddrs := l } }

section
variable (s : State) (l : List Word)

@[simp] theorem memRead_setFailing (a : Word) :
    memRead (s.setFailing l) a = ((memRead s a).1, (memRead s a).2.setFailing l) := rfl

@[simp] theorem memWrite_setFailing (a : Word) (v : Byte) :
    memWrite (s.setFailing l) a v = (memWrite s a v).setFailing l := rfl

@[simp] theorem locate_setFailing (o : AddrOperand) :
    locate (s.setFailing l) o = { locate s o with state := (locate s o).state.setFailing l } := by
  cases o <;> rfl

@[simp] theorem load_setFailing (o : Source) :
    load (s.setFailing l) o = { load s o with state := (load s o).state.setFailing l } := by
  cases o with
  | imm v => rfl
  | mem o => simp [load]

@[simp] theorem storeByte_setFailing (o : AddrOperand) (v : Byte) :
    storeByte (s.setFailing l) o v = (storeByte s o v).setFailing l := by
  simp [storeByte]

@[simp] theorem logicToA_setFailing (op : Byte → Byte → Byte) (o : Source) :
    logicToA op o (s.setFailing l) = (logicToA op o s).setFailing l := by
  simp only [logicToA, load_setFailing]
  rfl

@[simp] theorem modifyByte_setFailing (f : Byte → Byte) (o : AddrOperand) :
    modifyByte f o (s.setFailing l) = (modifyByte f o s).setFailing l := by
  simp only [modifyByte, locate_setFailing]
  rfl

@[simp] theorem shiftTarget_setFailing (f : Byte → Bool → Byte × Bool) (o : Target) :
    shiftTarget f o (s.setFailing l) = (shiftTarget f o s).setFailing l := by
  cases o with
  | acc => rfl
  | mem o =>
    simp only [shiftTarget, locate_setFailing]
    rfl

@[simp] theorem branchIf_setFailing (taken : Bool) (d : Byte) :
    branchIf taken d (s.setFailing l) = (branchIf taken d s).setFailing l := by
  cases taken <;> rfl

@[simp] theorem fetchInstr_setFailing :
    fetchInstr (s.setFailing l) = ((fetchInstr s).1, (fetchInstr s).2.setFailing l) := by
  have h : fetch8 (s.setFailing l) = ((fetch8 s).1, (fetch8 s).2.setFailing l) := rfl
  simp only [fetchInstr, h]
  cases opcodeTable (fetch8 s).1 <;> rfl

@[simp] theorem interruptEntry_setFailing (vec : Word) (p : Bool) :
    interruptEntry (s.setFailing l) vec p = (interruptEntry s vec p).setFailing l := rfl

@[simp] theorem sampleInterrupts_setFailing :
    sampleInterrupts (s.setFailing l) = (sampleInterrupts s).setFailing l := by
  have hn : (s.setFailing l).nmiPending = s.nmiPending := rfl
  have hi : ((s.setFailing l).irqPending && !(s.setFailing l).p.i) = (s.irqPending && !s.p.i) := rfl
  simp only [sampleInterrupts, hn, hi]
  split
  · exact congrArg (State.addCycles · _) (interruptEntry_setFailing (s.setNmiPending false) l nmiVector false)
  · split
    · exact congrArg (State.addCycles · _) (interruptEntry_setFailing (s.setIrqPending false) l irqVector false)
    · rfl

end

/-- An instruction does the same whatever the addresses at which the adapter fails. -/
theorem exec_setFailing (i : Instr) (s : State) (l : List Word) :
    ∃ t, exec i s = .next t ∧ exec i (s.setFailing l) = .next (t.setFailing l) := by
  cases i with
  | lda o | ldx o | ldy o | adc o | sbc o | cmp o | cpx o | cpy o | bit o =>
    refine ⟨_, rfl, ?_⟩
    simp only [exec, execLda, execLdx, execLdy, execAdc, execSbc, execCmp, execCpx, execCpy, execBit, load_setFailing]
    rfl
  | and o | ora o | eor o => exact ⟨_, rfl, congrArg Host.Outcome.next (logicToA_setFailing s l _ _)⟩
  | sta o | stx o | sty o => exact ⟨_, rfl, congrArg Host.Outcome.next (storeByte_setFailing s l _ _)⟩
  | inc o | dec o => exact ⟨_, rfl, congrArg Host.Outcome.next (modifyByte_setFailing s l _ _)⟩
  | asl o | lsr o | rol o | ror o => exact ⟨_, rfl, congrArg Host.Outcome.next (shiftTarget_setFailing s l _ _)⟩
  | bcc d | bcs d | bne d | beq d | bpl d | bmi d | bvc d | bvs d =>
    exact ⟨_, rfl, congrArg Host.Outcome.next (branchIf_setFailing s l _ d)⟩
  | jmp o =>
    refine ⟨_, rfl, ?_⟩
    simp only [exec, execJmp, locate_setFailing]
    rfl
  | brk =>
    exact ⟨_, rfl, congrArg Host.Outcome.next (interruptEntry_setFailing (s.setPC (s.pc + 1)) l irqVector true)⟩
  | undef c => exact ⟨_, execUndef_eq c s, execUndef_eq c (s.setFailing l)⟩
  | tax | tay | txa | tya | tsx | txs | pha | pla | php | plp | inx | dex | iny | dey | jsr w | rts | rti
  | clc | sec | cld | sed | cli | sei | clv | nop =>
    exact ⟨_, rfl, rfl⟩

/-- Fetching and running an instruction has a next state, the same whatever the addresses at which the adapter fails. -/
theorem runInstr_setFailing (s : State) (l : List Word) :
    ∃ t, runInstr s = .next t ∧ runInstr (s.setFailing l) = .next (t.setFailing l) := by
  unfold runInstr
  rw [fetchInstr_setFailing]
  exact exec_setFailing _ _ l

/-- No instruction changes the parameters. -/
theorem exec_cfg {i : Instr} {s t : State} (h : exec i s = .next t) : t.cfg = s.cfg := by
  obtain ⟨u, hu, hr⟩ := exec_restoreUnwritten i s
  obtain rfl : u = t := Host.Outcome.next.inj (hu.symm.trans h)
  rw [← hr]
  rfl

/-- Neither the sampling of interrupts nor an instruction changes the parameters. -/
theorem runInstr_sampleInterrupts_cfg {s t : State} (h : runInstr (sampleInterrupts s.clearOutputs) = .next t) :
    t.cfg = s.cfg := by
  obtain ⟨_, _, _, _, _, hcfg, _⟩ := sampleInterrupts_fields s.clearOutputs
  rw [exec_cfg h, State.addCycles_cfg, fetchInstr_state, hcfg]
  rfl

/-- The claim's word for a failing transaction is the model's test. -/
theorem fails_iff_failsAt (cfg : Config) (acc : BusAccess) : acc.fails cfg = true ↔ FailsAt cfg acc := by
  cases acc <;> simp [BusAccess.fails, FailsAt, BusAccess.addr]

/-- What the check of the transactions answers, in the claim's words (20_memory.md R70). -/
theorem failAtBus_next_rule {cfg : Config} {t : State} (hcfg : t.cfg = cfg) :
    ((∀ acc ∈ t.bus, ¬ FailsAt cfg acc) → failAtBus (.next t) = .next t) ∧
    (∀ pre acc post, t.bus = pre ++ acc :: post → (∀ x ∈ pre, ¬ FailsAt cfg x) → FailsAt cfg acc →
      failAtBus (.next t) = .fault (.busFault acc.addr)) := by
  subst hcfg
  simp only [← fails_iff_failsAt, Bool.not_eq_true]
  exact ⟨failAtBus_of_none, fun pre acc post => failAtBus_of_first⟩

/-- A step that is not halted is the check of the transactions of its instruction, run after the sampling of interrupts. -/
theorem step_of_not_haltReq {s : State} (hs : s.started = true) (hh : s.haltReq = false) :
    step s = failAtBus (runInstr (sampleInterrupts s.clearOutputs)) := by
  simp [step, stepSequence, hs, hh]

/-- A halted step reports so and does nothing else (60_exceptions.md R284). -/
theorem step_of_haltReq {s : State} (hs : s.started = true) (hh : s.haltReq = true) :
    step s = .next (s.clearOutputs.setStatus .haltRequested) := by
  simp [step, stepSequence, hs, hh]

/-- Only a started block answers a step with a next state (10_state.md R42). -/
theorem started_of_step_eq_next {s t : State} (h : step s = .next t) : s.started = true := by
  by_contra hs
  simp [step, hs] at h

/-- Settles O44: a step is the check of the transactions of its instruction, and these are the same over any adapter. -/
theorem busFaultEndsTheStep : Obligations.BusFaultEndsTheStep := by
  refine ⟨fun s hs hh => ?_, fun s t h => ?_⟩
  · obtain ⟨u, hu, -⟩ := runInstr_setFailing (sampleInterrupts s.clearOutputs) s.cfg.failingAddrs
    refine ⟨u, hu, ?_⟩
    rw [step_of_not_haltReq hs hh, hu]
    exact failAtBus_next_rule (runInstr_sampleInterrupts_cfg hu)
  · change step (s.setFailing []) = .next t at h
    have hs : s.started = true := started_of_step_eq_next (s := s.setFailing []) h
    rcases step_eq_next h with ⟨hh, rfl⟩ | ⟨hh, hrun⟩
    · refine ⟨fun _ => step_of_haltReq hs hh, fun pre acc post hbus => ?_⟩
      exact absurd hbus.symm (List.append_ne_nil_of_right_ne_nil pre (List.cons_ne_nil acc post))
    · obtain ⟨u, hu, hl⟩ := runInstr_setFailing (sampleInterrupts s.clearOutputs) []
      rw [← sampleInterrupts_setFailing] at hl
      obtain rfl : u.setFailing [] = t := Host.Outcome.next.inj (hl.symm.trans hrun)
      have hcfg : u.cfg = s.cfg := runInstr_sampleInterrupts_cfg hu
      have hback : { u.setFailing [] with cfg := s.cfg } = u := by rw [← hcfg]; rfl
      rw [step_of_not_haltReq hs hh, hu, hback]
      exact failAtBus_next_rule hcfg

end Sys2Proof.Machine

/-! The statements of 30_encoding.md: the round trip of every constructor put together, and the other direction, read off the
opcode grid one line at a time with the operand left open. -/

namespace Sys2Proof

open Sys2Proof.Claims Sys2Proof.Laws

/-- The round trips of the constructors, put together. -/
theorem decode_encode (i : Instr) : RoundTrip.Statement i := by
  cases i with
  | lda o => exact RoundTrip.lda o
  | ldx o => exact RoundTrip.ldx o
  | ldy o => exact RoundTrip.ldy o
  | sta o => exact RoundTrip.sta o
  | stx o => exact RoundTrip.stx o
  | sty o => exact RoundTrip.sty o
  | tax => exact RoundTrip.tax
  | tay => exact RoundTrip.tay
  | txa => exact RoundTrip.txa
  | tya => exact RoundTrip.tya
  | tsx => exact RoundTrip.tsx
  | txs => exact RoundTrip.txs
  | pha => exact RoundTrip.pha
  | pla => exact RoundTrip.pla
  | php => exact RoundTrip.php
  | plp => exact RoundTrip.plp
  | adc o => exact RoundTrip.adc o
  | sbc o => exact RoundTrip.sbc o
  | cmp o => exact RoundTrip.cmp o
  | cpx o => exact RoundTrip.cpx o
  | cpy o => exact RoundTrip.cpy o
  | and o => exact RoundTrip.and o
  | ora o => exact RoundTrip.ora o
  | eor o => exact RoundTrip.eor o
  | bit o => exact RoundTrip.bit o
  | asl o => exact RoundTrip.asl o
  | lsr o => exact RoundTrip.lsr o
  | rol o => exact RoundTrip.rol o
  | ror o => exact RoundTrip.ror o
  | inc o => exact RoundTrip.inc o
  | dec o => exact RoundTrip.dec o
  | inx => exact RoundTrip.inx
  | dex => exact RoundTrip.dex
  | iny => exact RoundTrip.iny
  | dey => exact RoundTrip.dey
  | bcc d => exact RoundTrip.bcc d
  | bcs d => exact RoundTrip.bcs d
  | bne d => exact RoundTrip.bne d
  | beq d => exact RoundTrip.beq d
  | bpl d => exact RoundTrip.bpl d
  | bmi d => exact RoundTrip.bmi d
  | bvc d => exact RoundTrip.bvc d
  | bvs d => exact RoundTrip.bvs d
  | jmp o => exact RoundTrip.jmp o
  | jsr w => exact RoundTrip.jsr w
  | rts => exact RoundTrip.rts
  | brk => exact RoundTrip.brk
  | rti => exact RoundTrip.rti
  | clc => exact RoundTrip.clc
  | sec => exact RoundTrip.sec
  | cld => exact RoundTrip.cld
  | sed => exact RoundTrip.sed
  | cli => exact RoundTrip.cli
  | sei => exact RoundTrip.sei
  | clv => exact RoundTrip.clv
  | nop => exact RoundTrip.nop
  | undef b => exact RoundTrip.undef b

/-- Settles O34, by the round trip of the instruction's constructor. -/
theorem decodeInvertsEncode : Obligations.DecodeInvertsEncode := decode_encode

/-- Settles O33: the bytes are what the instructions are encoded as. -/
theorem confirmedOpcodesDecode : Obligations.ConfirmedOpcodesDecode :=
  ⟨decode_encode (.lda (.imm 0x42)) rfl [], decode_encode (.sta (.zp 0x10)) rfl [],
   decode_encode (.adc (.imm 0x20)) rfl [], decode_encode (.cmp (.imm 0x42)) rfl [], decode_encode .dex rfl [],
   decode_encode (.bne 0xFD) rfl [], decode_encode (.jsr 0x0006) rfl [], decode_encode .rts rfl [],
   decode_encode .php rfl [], decode_encode .plp rfl []⟩

/-! ## What an entry of the opcode table stands for -/

/-- The instruction of an entry with its operand: the byte `d` in F2, the word `w` in F3 (30_encoding.md R82). -/
def Row.instr : Row → Byte → Word → Instr
  | .f1 i, _, _ => i
  | .f2 mk, d, _ => mk d
  | .f3 mk, _, w => mk w

/-- The bytes of that operand, in F3 the low one first (30_encoding.md R82). -/
def Row.operand : Row → Byte → Word → List Byte
  | .f1 _, _, _ => []
  | .f2 _, d, _ => [d]
  | .f3 _, _, w => [loByte w, hiByte w]

/-- Well-formedness, encoding and number of operand bytes of an entry's instruction, as one value. -/
def Row.facts (r : Row) (d : Byte) (w : Word) : Bool × List Byte × Nat :=
  ((r.instr d w).wellFormed, encode (r.instr d w), (r.instr d w).mode.operandBytes)

/-- What these are by the opcode that the entry stands at (30_encoding.md R81, R86, R88, R89). -/
def Row.expectedFacts (op : Byte) (r : Row) (d : Byte) (w : Word) : Bool × List Byte × Nat :=
  (true, op :: r.operand d w, (r.operand d w).length)

/-- One line of the grid, evaluated with the operand left open. -/
theorem opcodeGrid_line_facts (d : Byte) (w : Word) {h : Nat} (hh : h < 16) :
    (List.range 16).map (fun l => (opcodeTable (BitVec.ofNat 8 (16 * h + l))).facts d w) =
    (List.range 16).map (fun l =>
      (opcodeTable (BitVec.ofNat 8 (16 * h + l))).expectedFacts (BitVec.ofNat 8 (16 * h + l)) d w) := by
  interval_cases h <;> rfl

/-- The instruction of the entry at `op` is well formed, is encoded as `op` and its operand, and its mode counts the
operand's bytes. -/
theorem opcodeTable_exact (op d : Byte) (w : Word) :
    ((opcodeTable op).instr d w).wellFormed = true ∧
    encode ((opcodeTable op).instr d w) = op :: (opcodeTable op).operand d w ∧
    ((opcodeTable op).instr d w).mode.operandBytes = ((opcodeTable op).operand d w).length := by
  have hline := opcodeGrid_line_facts d w (h := op.toNat / 16) (by omega)
  have hfacts := List.map_inj_left.mp hline (op.toNat % 16) (List.mem_range.mpr (by omega))
  rw [Nat.div_add_mod, BitVec.ofNat_toNat, BitVec.setWidth_eq] at hfacts
  simpa [Row.facts, Row.expectedFacts] using hfacts

/-- What decodes is the instruction of the first byte's entry, and the bytes are the opcode, the operand and the rest. -/
theorem exists_operand_of_decode {bytes rest : List Byte} {i : Instr} (h : decode bytes = .ok (i, rest)) :
    ∃ op d w, i = (opcodeTable op).instr d w ∧ bytes = op :: ((opcodeTable op).operand d w ++ rest) := by
  unfold decode at h
  split at h
  · cases h
  · next op tail =>
    refine ⟨op, ?_⟩
    split at h <;> cases h
    · next hr => exact ⟨0, 0, by rw [hr]; exact ⟨rfl, rfl⟩⟩
    · next d hr => exact ⟨d, 0, by rw [hr]; exact ⟨rfl, rfl⟩⟩
    · next lo hi hr => exact ⟨0, mkWord hi lo, by rw [hr]; simp [Row.instr, Row.operand]⟩

/-- No format takes more than three bytes (30_encoding.md R80). -/
theorem decode_three_bytes (b0 b1 b2 : Byte) (rest : List Byte) :
    ∃ i rest', decode (b0 :: b1 :: b2 :: rest) = .ok (i, rest') := by
  cases h : opcodeTable b0 <;> simp [decode, h]

/-- Settles O35: what decodes is the instruction of an entry of the table, and every entry is exact. -/
theorem decodeIsTotalAndExact : Obligations.DecodeIsTotalAndExact := by
  refine ⟨decode_three_bytes, fun bytes i rest h => ?_⟩
  obtain ⟨op, d, w, rfl, rfl⟩ := exists_operand_of_decode h
  obtain ⟨hwf, henc, hlen⟩ := opcodeTable_exact op d w
  rw [henc, hlen, List.length_cons, Nat.add_comm]
  exact ⟨hwf, rfl, rfl⟩

end Sys2Proof

/-! The statements of 40_dispatch_and_operand_decoder.md: the operand decoder in numbers, what the fetch makes of the bytes
at PC, and that over the default memory no access fails. -/

namespace Sys2Proof.Machine

open Sys2Proof Sys2Proof.Claims

/-! ## The operand decoder in numbers -/

/-- A zero-page address is the number its byte is (40_dispatch_and_operand_decoder.md R107). -/
theorem zeroPage_toNat (d : Byte) : (zeroPage d).toNat = d.toNat := zext16_toNat d

/-- The index addition wraps inside the zero page (R108, R109). -/
theorem zeroPage_add_toNat (d i : Byte) : (zeroPage (d + i)).toNat = (d.toNat + i.toNat) % 256 := by
  rw [zeroPage_toNat, BitVec.toNat_add]

/-- An address of the zero page is the word of the number its byte is. -/
theorem zeroPage_eq_ofNat {d : Byte} {n : Nat} (h : d.toNat = n) : zeroPage d = BitVec.ofNat 16 n := by
  rw [← h, ← zeroPage_toNat, BitVec.ofNat_toNat, BitVec.setWidth_eq]

/-- The index addition wraps at the end of the address space (R112, R113, R116). -/
theorem indexed_toNat (w : Word) (i : Byte) : (indexed w i).toNat = (w.toNat + i.toNat) % 65536 := by
  rw [indexed, BitVec.toNat_add, zext16_toNat]

/-- The `crossed` bit is the carry of the index addition out of the low byte (R112, R113, R116). -/
theorem indexCrosses_eq (w : Word) (i : Byte) : indexCrosses w i = decide (w.toNat % 256 + i.toNat > 0xFF) := by
  rw [indexCrosses, loByte_toNat]

/-- The masks of R114 take the high byte of the pointer and the low byte of the address after it. -/
theorem samePageNext_eq_mkWord (w : Word) : samePageNext w = mkWord (hiByte w) (loByte (w + 1)) := by
  apply BitVec.eq_of_getLsbD_eq
  intro k hk
  simp only [samePageNext, mkWord, hiByte, loByte, BitVec.getLsbD_or, BitVec.getLsbD_and, BitVec.getLsbD_append,
    BitVec.getLsbD_extractLsb']
  interval_cases k <;> simp

/-- The page wrap of JMP's pointer in numbers (R114). -/
theorem samePageNext_eq (w : Word) :
    samePageNext w = BitVec.ofNat 16 (if w.toNat % 256 = 0xFF then w.toNat - 0xFF else w.toNat + 1) := by
  have hw := w.isLt
  apply BitVec.eq_of_toNat_eq
  have h1 : (w + 1).toNat = (w.toNat + 1) % 65536 := BitVec.toNat_add w 1
  rw [samePageNext_eq_mkWord, mkWord_toNat, hiByte_toNat, loByte_toNat, h1, BitVec.toNat_ofNat]
  split <;> omega

/-- The index addition to a pointer of the zero page, by the pointer's two bytes (R116). -/
theorem indexed_pointer {ptr : Word} {lo hi : Byte} (i : Byte) (h : ptr.toNat = lo.toNat + 256 * hi.toNat) :
    (indexed ptr i).toNat = (lo.toNat + 256 * hi.toNat + i.toNat) % 65536 ∧
    indexCrosses ptr i = decide (lo.toNat + i.toNat > 0xFF) := by
  have hlo : ptr.toNat % 256 = lo.toNat := by omega
  rw [indexed_toNat, indexCrosses_eq, hlo, h]
  exact ⟨rfl, rfl⟩

/-- The decoder's pointer read of JMP indirect, with the addresses in numbers (R114). -/
theorem locate_ind (s : State) (w : Word) :
    locate s (.ind w) =
      let r := readWord s w (BitVec.ofNat 16 (if w.toNat % 256 = 0xFF then w.toNat - 0xFF else w.toNat + 1))
      { addr := r.1, crossed := false, state := r.2 } := by
  rw [← samePageNext_eq]
  rfl

/-- The decoder's pointer read of IZX, with the addresses in numbers (R115). -/
theorem locate_izx (s : State) (d : Byte) :
    locate s (.izx d) =
      let r := readWord s (BitVec.ofNat 16 ((d.toNat + s.x.toNat) % 256))
        (BitVec.ofNat 16 ((d.toNat + s.x.toNat + 1) % 256))
      { addr := r.1, crossed := false, state := r.2 } := by
  have hlo : (d + s.x).toNat = (d.toNat + s.x.toNat) % 256 := BitVec.toNat_add d s.x
  have hhi : (d + s.x + 1).toNat = (d.toNat + s.x.toNat + 1) % 256 := by simp [BitVec.toNat_add]
  rw [← zeroPage_eq_ofNat hlo, ← zeroPage_eq_ofNat hhi]
  rfl

/-- The decoder's pointer read of IZY, with the addresses in numbers (R116). -/
theorem locate_izy (s : State) (d : Byte) :
    locate s (.izy d) =
      let r := readWord s (BitVec.ofNat 16 d.toNat) (BitVec.ofNat 16 ((d.toNat + 1) % 256))
      { addr := indexed r.1 s.y, crossed := indexCrosses r.1 s.y, state := r.2 } := by
  have hhi : (d + 1).toNat = (d.toNat + 1) % 256 := BitVec.toNat_add d 1
  rw [← zeroPage_eq_ofNat (d := d) rfl, ← zeroPage_eq_ofNat hhi]
  rfl

/-- Settles O22: the direct modes by their index additions; a pointer is a little-endian word, and the decoder writes what
its two reads write. -/
theorem decoderFormsEffectiveAddresses : Obligations.DecoderFormsEffectiveAddresses := by
  intro s
  refine ⟨fun d => ⟨zeroPage_toNat d, zeroPage_add_toNat d s.x, zeroPage_add_toNat d s.y, rfl, rfl, rfl, rfl, rfl, rfl⟩,
    fun w => ⟨rfl, indexed_toNat w s.x, indexed_toNat w s.y, rfl, indexCrosses_eq w s.x, indexCrosses_eq w s.y, rfl, rfl,
      rfl⟩, fun w => ?_, fun d => ?_, fun d => ?_, fun h => ⟨fun w => ?_, fun d => ?_, fun d => ?_⟩⟩
  · rw [locate_ind]
    obtain ⟨hv, hst, -⟩ := wordsAreLittleEndian s w _
    exact ⟨hv, rfl, hst⟩
  · rw [locate_izx]
    obtain ⟨hv, hst, -⟩ := wordsAreLittleEndian s _ _
    exact ⟨hv, rfl, hst⟩
  · rw [locate_izy]
    obtain ⟨hv, hst, -⟩ := wordsAreLittleEndian s _ _
    obtain ⟨haddr, hcrossed⟩ := indexed_pointer s.y hv
    exact ⟨haddr, hcrossed, hst⟩
  · rw [locate_ind]
    obtain ⟨hv, hst⟩ := (wordsAreLittleEndian s w _).2.2 h
    exact ⟨hv, rfl, hst⟩
  · rw [locate_izx]
    obtain ⟨hv, hst⟩ := (wordsAreLittleEndian s _ _).2.2 h
    exact ⟨hv, rfl, hst⟩
  · rw [locate_izy]
    obtain ⟨hv, hst⟩ := (wordsAreLittleEndian s _ _).2.2 h
    obtain ⟨haddr, hcrossed⟩ := indexed_pointer s.y hv
    exact ⟨haddr, hcrossed, hst⟩

/-- Over the default memory a memory operand is the byte at its effective address, read after the decoder's own accesses. -/
theorem load_mem_ram {s : State} (h : s.OnRam) (o : AddrOperand) :
    load s (.mem o) =
      { value := s.byteAt (locate s o).addr
        crossed := (locate s o).crossed
        state := { s with
          bus := (locate s o).state.bus ++ [.read (locate s o).addr (s.byteAt (locate s o).addr)] } } := by
  have hst := locate_state_ram h o
  have hr : (locate s o).state.OnRam := by rw [hst]; exact h
  rw [load, memRead_ram (hr.substitutes _), locate_byteAt]
  congr 1
  rw [hst]

/-- Settles O23: the effective address and the `crossed` bit are the decoder's, and the one read is the claim's. -/
theorem loadOperandReadsOneByte : Obligations.LoadOperandReadsOneByte :=
  ⟨fun _ _ => rfl, fun o s => congrArg (Loaded.mk _ _) (load_state s (.mem o)), fun o _ h => load_mem_ram h o⟩

/-! ## The bytes at PC -/

/-- The claim's fetches are those of the model (R102). -/
theorem fetched_succ (n : Nat) (e : State) :
    fetched (n + 1) e = ((fetch8 e).1 :: (fetched n (fetch8 e).2).1, (fetched n (fetch8 e).2).2) := rfl

/-- A fetch counts no cycle. -/
theorem fetched_cycles (n : Nat) (e : State) : (fetched n e).2.cycles = e.cycles := by
  induction n generalizing e with
  | zero => rfl
  | succ n ih => exact ih (fetch8 e).2

/-- The fetch makes of the bytes it reads the instruction that they decode to, and reads no others (R100, R102): each format
has one number of bytes (30_encoding.md R82). -/
theorem fetchInstr_of_decode_fetched {n : Nat} {e : State} {i : Instr} (h : decode (fetched n e).1 = .ok (i, [])) :
    fetchInstr e = (i, (fetched n e).2) := by
  cases n with
  | zero => cases h
  | succ n =>
    rw [fetched_succ] at h ⊢
    simp only [fetchInstr]
    cases hrow : opcodeTable (fetch8 e).1 with
    | f1 j =>
      rcases n with _ | n <;> simp [decode, hrow, fetched] at h
      rw [h]
      rfl
    | f2 mk =>
      rcases n with _ | _ | n <;> simp [decode, hrow, fetched] at h
      rw [← h]
      rfl
    | f3 mk =>
      rcases n with _ | _ | _ | n <;> simp [decode, hrow, fetched] at h
      rw [← h]
      rfl

/-- What the bus answers to the fetches from PC over the default memory. -/
theorem fetched_ram {e : State} (h : e.OnRam) {n : Nat} (hn : n ≤ 3) :
    fetched n e = ((bytesAtPC e).take n,
      { e with pc := e.pc + BitVec.ofNat 16 n, bus := e.bus ++ fetches e n }) := by
  interval_cases n
  · simp [fetched, fetches]
  · simp [fetched, fetches, bytesAtPC, memRead_ram (h.substitutes _)]
  · simp [fetched, fetches, bytesAtPC, memRead_ram, h.substitutes, BitVec.add_assoc, State.byteAt]
  · simp [fetched, fetches, bytesAtPC, memRead_ram, h.substitutes, BitVec.add_assoc, State.byteAt]

/-- The bytes that an instruction is decoded from are as many as its length, and the bytes after them do not matter
(30_encoding.md R80, R81). -/
theorem decode_take_length {bytes rest : List Byte} {i : Instr} (h : decode bytes = .ok (i, rest)) :
    i.length ≤ bytes.length ∧ decode (bytes.take i.length) = .ok (i, []) := by
  obtain ⟨hwf, rfl, hlen⟩ := decodeIsTotalAndExact.2 bytes i rest h
  change (encode i).length = i.length at hlen
  rw [← hlen, List.take_left, List.length_append]
  exact ⟨Nat.le_add_right .., by simpa using decode_encode i hwf []⟩

/-! ## No access to the default memory fails -/

/-- The bus is the default memory, and no transaction so far has failed. -/
def State.NoFailure (s : State) : Prop := s.OnDefaultBus ∧ ∀ acc ∈ s.bus, acc.fails s.cfg = false

/-- Only the parameters and the transactions matter. -/
theorem State.NoFailure.congr {s t : State} (h : s.NoFailure) (hcfg : t.cfg = s.cfg) (hbus : t.bus = s.bus) :
    t.NoFailure := by
  rw [State.NoFailure, State.OnDefaultBus, hcfg, hbus]
  exact h

/-- One more transaction that does not fail. The memory, the registers and the state of the bus do not matter. -/
theorem State.NoFailure.append {s : State} (h : s.NoFailure) {acc : BusAccess} (hacc : acc.fails s.cfg = false) :
    State.NoFailure { s with bus := s.bus ++ [acc] } := by
  obtain ⟨hdef, hbus⟩ := h
  refine ⟨hdef, fun b hb => ?_⟩
  rcases List.mem_append.mp hb with hold | hnew
  · exact hbus b hold
  · rw [List.mem_singleton.mp hnew]
    exact hacc

theorem State.NoFailure.onRam {s : State} (h : s.NoFailure) : s.OnRam := h.1.1

theorem State.NoFailure.failingAddrs {s : State} (h : s.NoFailure) : s.cfg.failingAddrs = [] := h.1.2

theorem memRead_noFailure {s : State} (h : s.NoFailure) (a : Word) : (memRead s a).2.NoFailure := by
  rw [memRead_ram (h.onRam.substitutes a)]
  exact h.append (by simp [BusAccess.fails, h.failingAddrs])

theorem memWrite_noFailure {s : State} (h : s.NoFailure) (a : Word) (v : Byte) : (memWrite s a v).NoFailure := by
  rw [memWrite_ram v (h.onRam.substitutes a)]
  exact h.append (acc := .write a v) (by simp [BusAccess.fails, h.failingAddrs])

theorem fetch8_noFailure {s : State} (h : s.NoFailure) : (fetch8 s).2.NoFailure := memRead_noFailure h s.pc

theorem readWord_noFailure {s : State} (h : s.NoFailure) (lo hi : Word) : (readWord s lo hi).2.NoFailure :=
  memRead_noFailure (memRead_noFailure h lo) hi

theorem push8_noFailure {s : State} (h : s.NoFailure) (v : Byte) : (push8 s v).NoFailure :=
  memWrite_noFailure h (stackAddr s.sp) v

theorem push16_noFailure {s : State} (h : s.NoFailure) (w : Word) : (push16 s w).NoFailure :=
  push8_noFailure (push8_noFailure h (hiByte w)) (loByte w)

theorem pull8_noFailure {s : State} (h : s.NoFailure) : (pull8 s).2.NoFailure :=
  memRead_noFailure (s := s.setSP (s.sp + 1)) h (stackAddr (s.sp + 1))

theorem pull16_noFailure {s : State} (h : s.NoFailure) : (pull16 s).2.NoFailure :=
  pull8_noFailure (pull8_noFailure h)

theorem interruptEntry_noFailure {s : State} (h : s.NoFailure) (vec : Word) (b : Bool) :
    (interruptEntry s vec b).NoFailure :=
  readWord_noFailure (push8_noFailure (push16_noFailure h s.pc) (packP s.p b)) vec (vec + 1)

theorem returnFromInterrupt_noFailure {s : State} (h : s.NoFailure) : (returnFromInterrupt s).NoFailure :=
  pull16_noFailure (s := (pull8 s).2.setP (unpackP (pull8 s).1)) (pull8_noFailure h)

theorem locate_noFailure {s : State} (h : s.NoFailure) (o : AddrOperand) : (locate s o).state.NoFailure := by
  cases o with
  | zp d | zpx d | zpy d | abs w | abx w | aby w => exact h
  | ind w | izx d | izy d => exact readWord_noFailure h _ _

theorem load_noFailure {s : State} (h : s.NoFailure) (o : Source) : (load s o).state.NoFailure := by
  cases o with
  | imm v => exact h
  | mem o => exact memRead_noFailure (locate_noFailure h o) _

theorem storeByte_noFailure {s : State} (h : s.NoFailure) (o : AddrOperand) (v : Byte) :
    (storeByte s o v).NoFailure :=
  memWrite_noFailure (locate_noFailure h o) (locate s o).addr v

theorem logicToA_noFailure {s : State} (h : s.NoFailure) (op : Byte → Byte → Byte) (o : Source) :
    (logicToA op o s).NoFailure :=
  (load_noFailure h o).congr (by simp [logicToA]) (by simp [logicToA])

theorem modifyByte_noFailure {s : State} (h : s.NoFailure) (f : Byte → Byte) (o : AddrOperand) :
    (modifyByte f o s).NoFailure :=
  memWrite_noFailure (load_noFailure h (.mem o)) (locate s o).addr (f (load s (.mem o)).value)

theorem shiftTarget_noFailure {s : State} (h : s.NoFailure) (f : Byte → Bool → Byte × Bool) (o : Target) :
    (shiftTarget f o s).NoFailure := by
  cases o with
  | acc => exact h
  | mem o =>
    have hload := load_noFailure h (.mem o)
    exact memWrite_noFailure (s := (load s (.mem o)).state.setFlagC (f (load s (.mem o)).value s.p.c).2) hload _ _

theorem branchIf_noFailure {s : State} (h : s.NoFailure) (taken : Bool) (d : Byte) :
    (branchIf taken d s).NoFailure := by
  rw [branchIf_state]
  exact h

theorem sampleInterrupts_noFailure {s : State} (h : s.NoFailure) : (sampleInterrupts s).NoFailure := by
  rcases sampleInterrupts_cases s with ⟨-, e⟩ | ⟨-, -, -, e⟩ | ⟨-, -, e⟩ <;> rw [e]
  · exact interruptEntry_noFailure (s := s.setNmiPending false) h nmiVector false
  · exact interruptEntry_noFailure (s := s.setIrqPending false) h irqVector false
  · exact h

theorem fetchInstr_noFailure {s : State} (h : s.NoFailure) : (fetchInstr s).2.NoFailure := by
  simp only [fetchInstr]
  split
  · exact fetch8_noFailure h
  · exact fetch8_noFailure (fetch8_noFailure h)
  · exact fetch8_noFailure (fetch8_noFailure (fetch8_noFailure h))

/-- Every instruction has a next state, and over the default memory none of its accesses fails. -/
theorem exec_noFailure {s : State} (h : s.NoFailure) (i : Instr) : ∃ t, exec i s = .next t ∧ t.NoFailure := by
  cases i with
  | lda o | ldx o | ldy o | adc o | sbc o | cmp o | cpx o | cpy o =>
    exact ⟨_, rfl, (load_noFailure h o.source).congr (by simp) (by simp)⟩
  | and o | ora o | eor o => exact ⟨_, rfl, logicToA_noFailure h _ o.source⟩
  | bit o => exact ⟨_, rfl, (load_noFailure h (.mem o.addr)).congr (by simp) (by simp)⟩
  | sta o | stx o | sty o => exact ⟨_, rfl, storeByte_noFailure h o.addr _⟩
  | inc o | dec o => exact ⟨_, rfl, modifyByte_noFailure h _ o.addr⟩
  | asl o | lsr o | rol o | ror o => exact ⟨_, rfl, shiftTarget_noFailure h _ o.target⟩
  | bcc d | bcs d | bne d | beq d | bpl d | bmi d | bvc d | bvs d => exact ⟨_, rfl, branchIf_noFailure h _ d⟩
  | jmp o => exact ⟨_, rfl, locate_noFailure h o.addr⟩
  | pha | php => exact ⟨_, rfl, push8_noFailure h _⟩
  | pla | plp => exact ⟨_, rfl, pull8_noFailure h⟩
  | jsr w => exact ⟨_, rfl, push16_noFailure h _⟩
  | rts => exact ⟨_, rfl, pull16_noFailure h⟩
  | brk => exact ⟨_, rfl, interruptEntry_noFailure (s := s.setPC (s.pc + 1)) h irqVector true⟩
  | rti => exact ⟨_, rfl, returnFromInterrupt_noFailure h⟩
  | undef b => exact ⟨_, execUndef_eq b s, h⟩
  | tax | tay | txa | tya | tsx | txs | inx | dex | iny | dey | clc | sec | cld | sed | cli | sei | clv | nop =>
    exact ⟨_, rfl, h⟩

/-- Fetching and running an instruction has a next state, and over the default memory none of its accesses fails. -/
theorem runInstr_noFailure {e : State} (h : e.NoFailure) : ∃ t, runInstr e = .next t ∧ t.NoFailure :=
  exec_noFailure (s := (fetchInstr e).2.addCycles (baseCycles (fetchInstr e).1)) (fetchInstr_noFailure h) (fetchInstr e).1

/-! ## The step -/

/-- The part of a step after the sampling of interrupts, over any bus (R100, R102). -/
theorem runInstr_of_decode_fetched {n : Nat} {e : State} {i : Instr} (h : decode (fetched n e).1 = .ok (i, [])) :
    runInstr e = exec i { (fetched n e).2 with cycles := e.cycles + baseCycles i } := by
  rw [runInstr, fetchInstr_of_decode_fetched h, State.addCycles, fetched_cycles]

/-- That part over the default memory is the claim's word for it. -/
theorem runInstr_of_decode_bytesAtPC {e : State} {i : Instr} {rest : List Byte} (he : e.OnRam)
    (h : decode (bytesAtPC e) = .ok (i, rest)) : runInstr e = runFrom e i := by
  obtain ⟨hlen, htake⟩ := decode_take_length h
  have hf := fetched_ram he hlen
  rw [runInstr_of_decode_fetched (n := i.length) (by rw [hf]; exact htake), hf]
  rfl

/-- Over the default memory, which never fails, the check of the transactions lets every step through (20_memory.md R70). -/
theorem step_of_onDefaultBus {s : State} (hs : s.started = true) (hh : s.haltReq = false) (hd : s.OnDefaultBus) :
    step s = runInstr (sampleInterrupts s.clearOutputs) := by
  have he : s.clearOutputs.NoFailure := ⟨hd, fun _ hacc => absurd hacc List.not_mem_nil⟩
  obtain ⟨t, ht, hok⟩ := runInstr_noFailure (sampleInterrupts_noFailure he)
  rw [step_of_not_haltReq hs hh, ht, failAtBus_of_none hok.2]

/-- The sampling of interrupts changes no parameter, so the bus stays what it is. -/
theorem sampleInterrupts_onRam {s : State} (h : s.OnRam) : (sampleInterrupts s).OnRam := by
  obtain ⟨-, -, -, -, -, hcfg, -⟩ := sampleInterrupts_fields s
  rwa [State.OnRam, hcfg]

/-- Where no interrupt is taken the sampling changes nothing (60_exceptions.md R276). -/
theorem sampleInterrupts_of_noEntry {s : State} (h : NoEntry s) : sampleInterrupts s = s := by
  obtain ⟨hn, hq⟩ := h
  rcases hq with hq | hi
  · simp [sampleInterrupts, hn, hq]
  · simp [sampleInterrupts, hn, hi]

/-- Settles O36: over any bus by the fetch, over the default memory because no access fails, and where no interrupt is taken
because the sampling then changes nothing. -/
theorem stepRunsTheDecodedInstruction : Obligations.StepRunsTheDecodedInstruction := by
  intro s i rest hs hh
  have hdefault (hd : s.OnDefaultBus) (h : decode (bytesAtPC (sampleInterrupts s.clearOutputs)) = .ok (i, rest)) :
      step s = runFrom (sampleInterrupts s.clearOutputs) i := by
    rw [step_of_onDefaultBus hs hh hd, runInstr_of_decode_bytesAtPC (sampleInterrupts_onRam (s := s.clearOutputs) hd.1) h]
  refine ⟨fun h => ?_, hdefault, fun hd hno h => ?_⟩
  · rw [step_of_not_haltReq hs hh]
    exact congrArg failAtBus (runInstr_of_decode_fetched h)
  · have he : sampleInterrupts s.clearOutputs = s.clearOutputs := sampleInterrupts_of_noEntry hno
    rw [he] at hdefault
    rw [hdefault hd h, runFrom]
    simp [State.clearOutputs, fetches, State.byteAt]

end Sys2Proof.Machine

/-! The statements of 41_flag_and_stack_primitives.md: the invariant of the machine along every run of events, what the carry
and overflow of the two sums mean, the packed status byte, and the stack primitives. -/

namespace Sys2Proof.Machine

open Sys2Proof Sys2Proof.Claims

/-! ## The invariant

Each shared operation keeps the invariant. The started bit, the parameters and the status output pass through every one of
them by computation, so what is left to see is that the memory keeps its canonical form. -/

/-- Only the started bit, the memory, the parameters and the status output matter. -/
theorem State.Inv.congr {s t : State} (h : s.Inv) (hstarted : t.started = s.started) (hmem : t.mem = s.mem)
    (hcfg : t.cfg = s.cfg) (hstatus : t.status = s.status) : t.Inv := by
  rw [State.Inv, statusFits, hstarted, hmem, hcfg, hstatus]
  exact h

section
variable {s : State} (h : s.Inv)
include h

theorem memWrite_inv (a : Word) (v : Byte) : (memWrite s a v).Inv := by
  obtain ⟨hstarted, hwf, hfits⟩ := h
  exact ⟨hstarted, memWrite_wf s a v hwf, hfits⟩

theorem push8_inv (v : Byte) : (push8 s v).Inv := memWrite_inv h (stackAddr s.sp) v

theorem push16_inv (w : Word) : (push16 s w).Inv := push8_inv (push8_inv h (hiByte w)) (loByte w)

theorem interruptEntry_inv (vec : Word) (b : Bool) : (interruptEntry s vec b).Inv :=
  push8_inv (push16_inv h s.pc) (packP s.p b)

theorem locate_inv (o : AddrOperand) : (locate s o).state.Inv := by
  rw [locate_state]
  exact h

theorem load_inv (o : Source) : (load s o).state.Inv := by
  rw [load_state]
  exact h

theorem storeByte_inv (o : AddrOperand) (v : Byte) : (storeByte s o v).Inv :=
  memWrite_inv (locate_inv h o) (locate s o).addr v

theorem logicToA_inv (op : Byte → Byte → Byte) (o : Source) : (logicToA op o s).Inv := by
  rw [logicToA_eq]
  exact h

theorem modifyByte_inv (f : Byte → Byte) (o : AddrOperand) : (modifyByte f o s).Inv :=
  memWrite_inv (load_inv h (.mem o)) (locate s o).addr (f (load s (.mem o)).value)

theorem shiftTarget_inv (f : Byte → Bool → Byte × Bool) (o : Target) : (shiftTarget f o s).Inv := by
  cases o with
  | acc => exact h
  | mem o => exact memWrite_inv (load_inv h (.mem o)) (locate s o).addr (f (load s (.mem o)).value s.p.c).1

theorem branchIf_inv (taken : Bool) (d : Byte) : (branchIf taken d s).Inv := by
  rw [branchIf_state]
  exact h

theorem sampleInterrupts_inv : (sampleInterrupts s).Inv := by
  rcases sampleInterrupts_cases s with ⟨-, e⟩ | ⟨-, -, -, e⟩ | ⟨-, -, e⟩ <;> rw [e]
  · exact interruptEntry_inv (s := s.setNmiPending false) h nmiVector false
  · exact interruptEntry_inv (s := s.setIrqPending false) h irqVector false
  · exact h

theorem fetchInstr_inv : (fetchInstr s).2.Inv := by
  rw [fetchInstr_state]
  exact h

theorem loadBytes_inv (a : Word) (l : List Byte) : (s.loadBytes a l).Inv := by
  obtain ⟨hstarted, hwf, hfits⟩ := h
  rw [loadBytes_eq]
  exact ⟨hstarted, loadBytes_wf l s a hwf, hfits⟩

/-- At the start of a step nothing is reported. -/
theorem clearOutputs_inv : s.clearOutputs.Inv := by
  obtain ⟨hstarted, hwf, -⟩ := h
  exact ⟨hstarted, hwf, rfl⟩

/-- An undefined opcode reports its own byte under STRICT_ILLEGAL, and it is one of the 105
(49_flags_nop_undefined.md R259). -/
theorem execUndef_inv {b : Byte} (hb : undefinedOpcodes.contains b = true) :
    ∃ t, execUndef b s = .next t ∧ t.Inv := by
  obtain ⟨hstarted, hwf, hfits⟩ := h
  cases hstrict : s.cfg.strictIllegal with
  | false => exact ⟨s, by simp [execUndef, hstrict], hstarted, hwf, hfits⟩
  | true =>
    refine ⟨s.setStatus (.illegalOpcode b), by simp [execUndef, hstrict], hstarted, hwf, ?_⟩
    change (s.cfg.strictIllegal && undefinedOpcodes.contains b) = true
    rw [hstrict, hb]
    rfl

/-- Every instruction of the hardware has a next state, and keeps the invariant. -/
theorem exec_inv {i : Instr} (hi : i.wellFormed = true) : ∃ t, exec i s = .next t ∧ t.Inv := by
  cases i with
  | lda o | ldx o | ldy o | adc o | sbc o | cmp o | cpx o | cpy o =>
    exact ⟨_, rfl, (load_inv h o.source).congr (by simp) (by simp) (by simp) (by simp)⟩
  | and o | ora o | eor o => exact ⟨_, rfl, logicToA_inv h _ o.source⟩
  | bit o => exact ⟨_, rfl, (load_inv h (.mem o.addr)).congr (by simp) (by simp) (by simp) (by simp)⟩
  | sta o | stx o | sty o => exact ⟨_, rfl, storeByte_inv h o.addr _⟩
  | inc o | dec o => exact ⟨_, rfl, modifyByte_inv h _ o.addr⟩
  | asl o | lsr o | rol o | ror o => exact ⟨_, rfl, shiftTarget_inv h _ o.target⟩
  | bcc d | bcs d | bne d | beq d | bpl d | bmi d | bvc d | bvs d => exact ⟨_, rfl, branchIf_inv h _ d⟩
  | jmp o => exact ⟨_, rfl, locate_inv h o.addr⟩
  | pha | php => exact ⟨_, rfl, push8_inv h _⟩
  | jsr w => exact ⟨_, rfl, push16_inv h _⟩
  | brk => exact ⟨_, rfl, interruptEntry_inv (s := s.setPC (s.pc + 1)) h irqVector true⟩
  | undef b => exact execUndef_inv h hi
  | tax | tay | txa | tya | tsx | txs | pla | plp | inx | dex | iny | dey | rts | rti
  | clc | sec | cld | sed | cli | sei | clv | nop =>
    exact ⟨_, rfl, h⟩

end

/-- The instruction that a fetch gives is that of the opcode's entry in the table. -/
theorem fetchInstr_eq_row (s : State) : ∃ op d w, (fetchInstr s).1 = (opcodeTable op).instr d w := by
  refine ⟨(fetch8 s).1, ?_⟩
  simp only [fetchInstr]
  cases opcodeTable (fetch8 s).1 with
  | f1 i => exact ⟨0, 0, rfl⟩
  | f2 mk => exact ⟨_, 0, rfl⟩
  | f3 mk => exact ⟨0, _, rfl⟩

/-- Only instructions of the hardware are fetched: an undefined one carries an unassigned byte (30_encoding.md R88). -/
theorem fetchInstr_wellFormed (s : State) : (fetchInstr s).1.wellFormed = true := by
  obtain ⟨op, d, w, hrow⟩ := fetchInstr_eq_row s
  rw [hrow]
  exact (opcodeTable_exact op d w).1

/-- Fetching and running an instruction has a next state, and keeps the invariant. -/
theorem runInstr_inv {s : State} (h : s.Inv) : ∃ t, runInstr s = .next t ∧ t.Inv :=
  exec_inv (s := (fetchInstr s).2.addCycles (baseCycles (fetchInstr s).1)) (fetchInstr_inv h) (fetchInstr_wellFormed s)

/-- The reset sequence gives a good state from any memory in its canonical form. The status output it leaves alone (log
entry 8). -/
theorem resetSequence_inv {s : State} (h : s.Inv) : (resetSequence s).Inv := by
  obtain ⟨-, hwf, hfits⟩ := h
  exact ⟨rfl, hwf, hfits⟩

/-- A failed access is the one thing that can stop an event which has a next state (20_memory.md R70). -/
theorem failAtBus_next_cases (t : State) :
    failAtBus (.next t) = .next t ∨ ∃ a, failAtBus (.next t) = .fault (.busFault a) := by
  simp only [failAtBus]
  split
  · next b _ => exact .inr ⟨b.addr, rfl⟩
  · exact .inl rfl

/-- Every event from a good state ends in a good state or in BusFault. -/
theorem applyEvent_inv (e : Event) {s : State} (h : s.Inv) :
    (∃ t, applyEvent e s = .next t ∧ t.Inv) ∨ ∃ a, applyEvent e s = .fault (.busFault a) := by
  have hchecked {t : State} (ht : t.Inv) :
      (∃ u, failAtBus (.next t) = .next u ∧ u.Inv) ∨ ∃ a, failAtBus (.next t) = .fault (.busFault a) :=
    (failAtBus_next_cases t).imp (fun hnext => ⟨t, hnext, ht⟩) id
  have hstarted : s.started = true := h.1
  cases e with
  | reset => exact hchecked (resetSequence_inv h)
  | step =>
    cases hh : s.haltReq with
    | true =>
      obtain ⟨-, hwf, -⟩ := h
      exact .inl ⟨_, step_of_haltReq hstarted hh, hstarted, hwf, rfl⟩
    | false =>
      obtain ⟨t, ht, hinv⟩ := runInstr_inv (sampleInterrupts_inv (clearOutputs_inv h))
      rw [applyEvent, step_of_not_haltReq hstarted hh, ht]
      exact hchecked hinv
  | irqReq => exact .inl ⟨s.setIrqPending true, by simp [applyEvent, irqEvent, hstarted], h⟩
  | nmiReq => exact .inl ⟨s.setNmiPending true, by simp [applyEvent, nmiEvent, hstarted], h⟩
  | setHalt level => exact .inl ⟨_, rfl, h⟩
  | poke a v => exact .inl ⟨_, rfl, loadBytes_inv h a [v]⟩
  | setDevice d => exact .inl ⟨_, rfl, h⟩

/-! ## No event stops over the default memory -/

/-- At the start of a step no transaction has failed. -/
theorem clearOutputs_noFailure {s : State} (h : s.OnDefaultBus) : s.clearOutputs.NoFailure :=
  ⟨h, fun _ hacc => absurd hacc List.not_mem_nil⟩

theorem resetSequence_noFailure {s : State} (h : s.OnDefaultBus) : (resetSequence s).NoFailure :=
  readWord_noFailure (s := { s with bus := [] }) ⟨h, fun _ hacc => absurd hacc List.not_mem_nil⟩ _ _

/-- Over the default memory every event after the first reset has a next state, over the default memory again. -/
theorem applyEvent_onDefaultBus (e : Event) {s : State} (hstarted : s.started = true) (h : s.OnDefaultBus) :
    ∃ t, applyEvent e s = .next t ∧ t.OnDefaultBus := by
  cases e with
  | reset =>
    have hok := resetSequence_noFailure h
    exact ⟨_, failAtBus_of_none hok.2, hok.1⟩
  | step =>
    cases hh : s.haltReq with
    | true => exact ⟨_, step_of_haltReq hstarted hh, h⟩
    | false =>
      obtain ⟨t, ht, hok⟩ := runInstr_noFailure (sampleInterrupts_noFailure (clearOutputs_noFailure h))
      exact ⟨t, by rw [applyEvent, step_of_onDefaultBus hstarted hh h, ht], hok.1⟩
  | irqReq => exact ⟨s.setIrqPending true, by simp [applyEvent, irqEvent, hstarted], h⟩
  | nmiReq => exact ⟨s.setNmiPending true, by simp [applyEvent, nmiEvent, hstarted], h⟩
  | setHalt level => exact ⟨_, rfl, h⟩
  | poke a v => exact ⟨_, rfl, h⟩
  | setDevice d => exact ⟨_, rfl, h⟩

/-- The induction over a run: if every event keeps `P` or ends in an allowed fault, so does every run of events. -/
theorem runEvents_induction {P : State → Prop} {allowed : Fault → Prop}
    (hevent : ∀ e s, P s →
      (∃ t, applyEvent e s = .next t ∧ P t) ∨ ∃ f, applyEvent e s = .fault f ∧ allowed f)
    (events : List Event) {s : State} (h : P s) :
    (∃ t, runEvents events s = .next t ∧ P t) ∨ ∃ f, runEvents events s = .fault f ∧ allowed f := by
  induction events generalizing s with
  | nil => exact .inl ⟨s, rfl, h⟩
  | cons e rest ih =>
    rcases hevent e s h with ⟨t, ht, hP⟩ | ⟨f, hf, hallowed⟩
    · rw [runEvents, ht]
      exact ih hP
    · exact .inr ⟨f, by rw [runEvents, hf], hallowed⟩

/-- Settles O60: every event keeps the invariant or ends in BusFault, and over the default memory it does not fail. -/
theorem noRunOfEventsStops : Obligations.NoRunOfEventsStops := by
  refine ⟨fun events s hinv hd => ?_, fun events s hinv => ?_⟩
  · have hevent (e : Event) (s : State) (h : s.Inv ∧ s.OnDefaultBus) :
        (∃ t, applyEvent e s = .next t ∧ t.Inv ∧ t.OnDefaultBus) ∨ ∃ f, applyEvent e s = .fault f ∧ False := by
      obtain ⟨hinv, hd⟩ := h
      obtain ⟨t, ht, htd⟩ := applyEvent_onDefaultBus e hinv.1 hd
      rcases applyEvent_inv e hinv with ⟨u, hu, hui⟩ | ⟨a, ha⟩
      · obtain rfl : t = u := Host.Outcome.next.inj (ht.symm.trans hu)
        exact .inl ⟨t, ht, hui, htd⟩
      · cases ht.symm.trans ha
    rcases runEvents_induction hevent events ⟨hinv, hd⟩ with hrun | ⟨_, _, hfalse⟩
    · exact hrun
    · exact hfalse.elim
  · have hevent (e : Event) (s : State) (h : s.Inv) :
        (∃ t, applyEvent e s = .next t ∧ t.Inv) ∨ ∃ f, applyEvent e s = .fault f ∧ True :=
      (applyEvent_inv e h).imp id fun ⟨a, ha⟩ => ⟨_, ha, trivial⟩
    exact (runEvents_induction hevent events hinv).imp id fun ⟨⟨a⟩, ha, _⟩ => ⟨a, ha⟩

/-! ## The sums of ADC and SBC -/

/-- The mask of the V formula (41_flag_and_stack_primitives.md R133) leaves bit 7. -/
theorem and_0x80_eq_zero_iff (x : Byte) : x &&& 0x80 = 0 ↔ x.msb = false := by
  have h : x &&& 0x80 = if x.getLsbD 7 then 0x80 else 0 := BitVec.and_twoPow x 7
  rw [h, BitVec.msb_eq_getLsbD_last]
  cases x.getLsbD 7 <;> decide

theorem sumOverflow_eq (a m : Byte) (cin : Bool) :
    sumOverflow a m cin =
      decide ((a ^^^ sumResult a m cin) &&& (m ^^^ sumResult a m cin) &&& 0x80 ≠ 0x00) := by
  rw [decide_not]
  rfl

/-- V is 1 where both operands have the sign that the result has not (R133). -/
theorem sumOverflow_iff_msb (a m : Byte) (cin : Bool) :
    sumOverflow a m cin = true ↔ a.msb ≠ (sumResult a m cin).msb ∧ m.msb ≠ (sumResult a m cin).msb := by
  rw [sumOverflow_eq, decide_eq_true_iff, ne_eq, and_0x80_eq_zero_iff]
  simp

theorem sumResult_toNat (a m : Byte) (cin : Bool) :
    (sumResult a m cin).toNat = (a.toNat + m.toNat + cin.toNat) % 256 := BitVec.toNat_ofNat ..

theorem sumCarry_iff (a m : Byte) (cin : Bool) :
    sumCarry a m cin = true ↔ a.toNat + m.toNat + cin.toNat > 255 := decide_eq_true_iff

/-- The signed reading of a byte is its unsigned one or that less 256, in the signed range. -/
theorem byte_toInt_cases (a : Byte) :
    -128 ≤ a.toInt ∧ a.toInt ≤ 127 ∧ (a.toInt = a.toNat ∨ a.toInt = (a.toNat : Int) - 256) := by
  have ha := a.isLt
  have h := BitVec.toInt_eq_toNat_cond a
  split at h <;> omega

/-- V is 1 where the exact signed sum is not a signed byte (R133). -/
theorem sumOverflow_iff_range (a m : Byte) (cin : Bool) :
    sumOverflow a m cin = true ↔
      ¬ (-128 ≤ a.toInt + m.toInt + (cin.toNat : Int) ∧ a.toInt + m.toInt + (cin.toNat : Int) ≤ 127) := by
  have ha := byte_toInt_cases a
  have hm := byte_toInt_cases m
  have hr := byte_toInt_cases (sumResult a m cin)
  have hsum := sumResult_toNat a m cin
  have hc := cin.toNat_le
  simp only [sumOverflow_iff_msb, BitVec.msb_eq_toInt, ne_eq, decide_eq_decide]
  omega

/-- The one's complement in its two readings (R134). -/
theorem complement_toNat (m : Byte) : (~~~ m).toNat = 255 - m.toNat := BitVec.toNat_not

theorem complement_toInt (m : Byte) : (~~~ m).toInt = -m.toInt - 1 := by
  have hm := byte_toInt_cases m
  have hc := byte_toInt_cases (~~~ m)
  have hn := complement_toNat m
  omega

/-- Settles O24: the readings of the sum of two bytes, and of the sum with the complement. -/
theorem carryAndOverflowMeanRange : Obligations.CarryAndOverflowMeanRange := by
  intro a m cin
  have hm := m.isLt
  have hc := complement_toNat m
  refine ⟨sumResult_toNat a m cin, sumCarry_iff a m cin, sumOverflow_iff_range a m cin, ?_, ?_, ?_⟩
  · rw [sumResult_toNat, hc]
    omega
  · rw [sumCarry_iff, hc]
    omega
  · rw [sumOverflow_iff_range, complement_toInt]
    omega

/-! ## ADC and SBC -/

/-- An entry of format F2 is the row of its opcode (30_encoding.md R82, R86). -/
theorem opcode2_of_table {op : Byte} {base : Nat} {mk : Byte → Instr} (h : opcodeTable op = .f2 mk)
    (hbase : ∀ d, baseCycles (mk d) = base) : Opcode2 op base mk :=
  fun d => ⟨fun rest => by simp [decode, h], hbase d⟩

/-- An entry of format F3 is the row of its opcode (R82, R86). -/
theorem opcode3_of_table {op : Byte} {base : Nat} {mk : Word → Instr} (h : opcodeTable op = .f3 mk)
    (hbase : ∀ w, baseCycles (mk w) = base) : Opcode3 op base mk :=
  fun lo hi => ⟨fun rest => by simp [decode, h], hbase (mkWord hi lo)⟩

/-- The eight rows of an instruction of the modes of LDA, from its entries in the table. -/
theorem aluOpcodes_of_table {i : AluOperand → Instr} {imm zp zpx abs abx aby izx izy : Byte}
    (hbase : ∀ o, baseCycles (i o) = aluCycles o)
    (himm : opcodeTable imm = .f2 fun v => i (.imm v)) (hzp : opcodeTable zp = .f2 fun d => i (.zp d))
    (hzpx : opcodeTable zpx = .f2 fun d => i (.zpx d)) (habs : opcodeTable abs = .f3 fun w => i (.abs w))
    (habx : opcodeTable abx = .f3 fun w => i (.abx w)) (haby : opcodeTable aby = .f3 fun w => i (.aby w))
    (hizx : opcodeTable izx = .f2 fun d => i (.izx d)) (hizy : opcodeTable izy = .f2 fun d => i (.izy d)) :
    AluOpcodes i imm zp zpx abs abx aby izx izy :=
  ⟨opcode2_of_table himm fun _ => hbase _, opcode2_of_table hzp fun _ => hbase _,
   opcode2_of_table hzpx fun _ => hbase _, opcode3_of_table habs fun _ => hbase _,
   opcode3_of_table habx fun _ => hbase _, opcode3_of_table haby fun _ => hbase _,
   opcode2_of_table hizx fun _ => hbase _, opcode2_of_table hizy fun _ => hbase _⟩

/-- A load in the claims' words for its byte, its `crossed` bit and the state it leaves
(40_dispatch_and_operand_decoder.md R117). -/
theorem load_eq_operand (s : State) (o : Source) :
    load s o =
      { value := operandByte s o
        crossed := operandCrossed s o
        state := { s with device := (operandState s o).device, bus := (operandState s o).bus } } := by
  cases o with
  | imm v => rfl
  | mem o => exact congrArg (Loaded.mk _ _) (load_state s (.mem o))

/-- What an addition to A writes (R135): A and four flags, from the sum with the carry. -/
theorem addToA_eq (s : State) (m : Byte) :
    s.addToA m = { s with
      a := sumResult s.a m s.p.c
      p := { withNZ s.p (sumResult s.a m s.p.c) with
        c := sumCarry s.a m s.p.c, v := sumOverflow s.a m s.p.c } } := rfl

/-- Settles O6: an addition of the operand byte to A. -/
theorem adcAddsWithCarry : Obligations.AdcAddsWithCarry := by
  refine ⟨aluOpcodes_of_table (fun _ => rfl) rfl rfl rfl rfl rfl rfl rfl rfl, fun o s => ?_⟩
  simp only [exec, execAdc, load_eq_operand, addToA_eq, sumOverflow_eq]
  rfl

/-- Settles O7: an addition of the operand byte's complement to A. -/
theorem sbcSubtractsWithBorrow : Obligations.SbcSubtractsWithBorrow := by
  refine ⟨aluOpcodes_of_table (fun _ => rfl) rfl rfl rfl rfl rfl rfl rfl rfl, fun o s => ?_⟩
  simp only [exec, execSbc, load_eq_operand, addToA_eq, sumOverflow_eq]
  rfl

/-- The borrow is the carry inverted (R134). -/
theorem invertedCarry_toNat (cin : Bool) : (!cin).toNat = 1 - cin.toNat := by
  cases cin <;> rfl

/-- The difference with the inverted carry takes the sum back (R147). -/
theorem sumResult_sumResult_complement (a m : Byte) (cin : Bool) :
    sumResult (sumResult a m cin) (~~~ m) (!cin) = a := by
  have ha := a.isLt
  have hm := m.isLt
  have hc := cin.toNat_le
  apply BitVec.eq_of_toNat_eq
  rw [sumResult_toNat, sumResult_toNat, complement_toNat, invertedCarry_toNat]
  omega

/-- That difference borrows where the sum carried (R147). -/
theorem sumCarry_sumResult_complement (a m : Byte) (cin : Bool) :
    sumCarry (sumResult a m cin) (~~~ m) (!cin) = true ↔ a.toNat + m.toNat + cin.toNat ≤ 255 := by
  have ha := a.isLt
  have hm := m.isLt
  have hc := cin.toNat_le
  rw [sumCarry_iff, sumResult_toNat, complement_toNat, invertedCarry_toNat]
  omega

/-- Settles O25: A and C after the pair are the difference of the sum with the carry inverted. -/
theorem sbcUndoesAdcWithInvertedCarry : Obligations.SbcUndoesAdcWithInvertedCarry := by
  intro m s t u hadc hsbc
  obtain rfl := Host.Outcome.next.inj hadc
  obtain rfl := Host.Outcome.next.inj hsbc
  exact ⟨sumResult_sumResult_complement s.a m s.p.c, sumCarry_sumResult_complement s.a m s.p.c⟩

/-! ## The packed status byte -/

theorem packP_toNat (p : Flags) (b : Bool) :
    (packP p b).toNat = p.n.toNat * 128 + p.v.toNat * 64 + 32 + b.toNat * 16 + p.d.toNat * 8 + p.i.toNat * 4
      + p.z.toNat * 2 + p.c.toNat := by
  rw [packP, BitVec.toNat_ofNat, Nat.mod_eq_of_lt]
  have hn := p.n.toNat_le
  have hv := p.v.toNat_le
  have hb := b.toNat_le
  have hd := p.d.toNat_le
  have hi := p.i.toNat_le
  have hz := p.z.toNat_le
  have hc := p.c.toNat_le
  omega

/-- The six stored flags survive packing and unpacking, whatever bit 4 is (R138, R139). -/
@[simp] theorem unpackP_packP (p : Flags) (b : Bool) : unpackP (packP p b) = p := by
  obtain ⟨n, v, d, i, z, c⟩ := p
  revert n v d i z c b
  decide

/-- Settles O26: no sum of the weights reaches 256, and each flag keeps its own bit. -/
theorem packedStatusLayout : Obligations.PackedStatusLayout :=
  ⟨packP_toNat, fun _ => rfl, unpackP_packP⟩

/-! ## The stack -/

/-- `{$01, SP}` in numbers (10_state.md R23). -/
theorem stackAddr_toNat (sp : Byte) : (stackAddr sp).toNat = 0x0100 + sp.toNat := mkWord_toNat 0x01 sp

/-- The claims' word for the stack address is the model's. -/
@[simp] theorem slot_eq_stackAddr (sp : Byte) : slot sp = stackAddr sp := by
  apply BitVec.eq_of_toNat_eq
  rw [stackAddr_toNat]
  simp [slot]
  omega

theorem stackAddr_ne_pred (sp : Byte) : stackAddr sp ≠ stackAddr (sp - 1) := by
  intro h
  have := stackAddr_inj h
  bv_omega

/-- A write stores its byte where the default memory serves the address, and changes no other (20_memory.md R52, R53). -/
theorem memWrite_storedByte (s : State) (a : Word) (v : Byte) : StoredByte s (memWrite s a v) a v := by
  refine ⟨?_, fun b hb => memWrite_byteAt_ne s a b v hb⟩
  unfold StoredAt
  split
  · next hsub => rw [memWrite_substituted v hsub]; rfl
  · next hsub => exact memWrite_byteAt_same v (by simpa using hsub)

/-- Two writes to two addresses store both bytes. -/
theorem memWrite_memWrite_stored (s : State) {a b : Word} (v w : Byte) (hab : a ≠ b) :
    let t := memWrite (memWrite s a v) b w
    StoredAt s t a v ∧ StoredAt s t b w ∧ ∀ c, c ≠ a → c ≠ b → t.byteAt c = s.byteAt c := by
  obtain ⟨hfirst, hfirstNe⟩ := memWrite_storedByte s a v
  obtain ⟨hsecond, hsecondNe⟩ := memWrite_storedByte (memWrite s a v) b w
  refine ⟨?_, ?_, fun c hca hcb => (hsecondNe c hcb).trans (hfirstNe c hca)⟩
  · exact (hsecondNe a hab).trans hfirst
  · rw [StoredAt, memWrite_cfg, hfirstNe b hab.symm] at hsecond
    exact hsecond

/-- `Push16` is two writes, the high byte first, and the new SP (R140). -/
theorem push16_eq (s : State) (w : Word) :
    push16 s w =
      { memWrite (memWrite s (stackAddr s.sp) (hiByte w)) (stackAddr (s.sp - 1)) (loByte w) with sp := s.sp - 2 } := by
  rw [← push16_sp s w]
  rfl

/-- `Pull16` is the new SP and two reads, the low byte first (R141). -/
theorem pull16_eq (s : State) :
    let lo := memRead s (stackAddr (s.sp + 1))
    let hi := memRead lo.2 (stackAddr (s.sp + 2))
    pull16 s = (mkWord hi.1 lo.1, { hi.2 with sp := s.sp + 2 }) := by
  have e : s.sp + 2 = s.sp + 1 + 1 := by bv_omega
  rw [e]
  rfl

/-- Settles O27: the primitives are their bus operations at the stack addresses, and a new SP. -/
theorem stackPrimitivesStayInPageOne : Obligations.StackPrimitivesStayInPageOne := by
  simp only [Obligations.StackPrimitivesStayInPageOne, StoredWordOnStack, slot_eq_stackAddr]
  refine ⟨fun s v => ⟨rfl, ⟨rfl, rfl, fun h => ?_⟩, memWrite_storedByte s (stackAddr s.sp) v⟩,
    fun s => ⟨rfl, pull8_ram⟩, fun s w => ?_, fun s => ⟨pull16_eq s, fun h => ?_⟩, stackAddr_toNat⟩
  · rw [push8_ram h]
    exact ⟨rfl, rfl⟩
  · refine ⟨by rw [push16_eq]; rfl, ⟨rfl, rfl, fun h => ?_⟩, memWrite_memWrite_stored s _ _ (stackAddr_ne_pred s.sp)⟩
    rw [push16_ram h]
    exact ⟨rfl, rfl⟩
  · simp [BusEnds, memRead_ram, h.substitutes, State.byteAt]

/-! ## A pull after a push -/

/-- A pull reads what the slot above SP holds, whatever else has changed since it was pushed (R142). -/
theorem pull8_of_pushed {u : State} {sp v : Byte} (hu : u.OnRam) (hsp : u.sp = sp - 1)
    (hbyte : u.byteAt (stackAddr sp) = v) : (pull8 u).1 = v ∧ (pull8 u).2.sp = sp := by
  have e : u.sp + 1 = sp := by bv_omega
  rw [pull8_ram hu, e]
  exact ⟨hbyte, rfl⟩

theorem pull16_of_pushed {u : State} {sp : Byte} {w : Word} (hu : u.OnRam) (hsp : u.sp = sp - 2)
    (hhi : u.byteAt (stackAddr sp) = hiByte w) (hlo : u.byteAt (stackAddr (sp - 1)) = loByte w) :
    (pull16 u).1 = w ∧ (pull16 u).2.sp = sp := by
  have e1 : u.sp + 1 = sp - 1 := by bv_omega
  have e2 : u.sp + 2 = sp := by bv_omega
  rw [pull16_ram hu, e1, e2, hhi, hlo, mkWord_hi_lo]
  exact ⟨rfl, rfl⟩

theorem push8_byteAt_same {s : State} (h : s.OnRam) (v : Byte) : (push8 s v).byteAt (stackAddr s.sp) = v :=
  memWrite_byteAt_same v (h.substitutes _)

theorem push16_byteAt_hi {s : State} (h : s.OnRam) (w : Word) : (push16 s w).byteAt (stackAddr s.sp) = hiByte w :=
  (push8_byteAt_ne (push8 s (hiByte w)) (loByte w) (stackAddr_ne_pred s.sp)).trans (push8_byteAt_same h (hiByte w))

theorem push16_byteAt_lo {s : State} (h : s.OnRam) (w : Word) :
    (push16 s w).byteAt (stackAddr (s.sp - 1)) = loByte w :=
  push8_byteAt_same (s := push8 s (hiByte w)) h (loByte w)

/-- Settles O28: the default memory holds what was pushed, and A and the flags are no part of it. -/
theorem pullUndoesPush : Obligations.PullUndoesPush := by
  refine ⟨fun s v h => ?_, fun s w h => ?_, fun s t other h hpha => ?_, fun s t other h hphp => ?_⟩
  · exact pull8_of_pushed h rfl (push8_byteAt_same h v)
  · exact pull16_of_pushed h (push16_sp s w) (push16_byteAt_hi h w) (push16_byteAt_lo h w)
  · obtain rfl := Host.Outcome.next.inj hpha
    obtain ⟨hv, hsp⟩ := pull8_of_pushed (u := { push8 s s.a with a := other }) h rfl (push8_byteAt_same h s.a)
    exact ⟨_, rfl, hv, hsp⟩
  · obtain rfl := Host.Outcome.next.inj hphp
    obtain ⟨hv, hsp⟩ := pull8_of_pushed (u := { push8 s (packP s.p true) with p := other }) h rfl
      (push8_byteAt_same h (packP s.p true))
    exact ⟨_, rfl, (congrArg unpackP hv).trans (unpackP_packP s.p true), hsp⟩

end Sys2Proof.Machine

/-! The statements of 42_load_store_transfer_stack.md: a load by its operand byte, a store by its one write, and the stack
instructions by the push and the pull of one byte. -/

namespace Sys2Proof.Machine

open Sys2Proof Sys2Proof.Claims

/-! ## Loads -/

/-- `SetNZ` writes the flags of the claims' word for it (41_flag_and_stack_primitives.md R130). -/
theorem setNZ_eq (s : State) (v : Byte) : s.setNZ v = { s with p := withNZ s.p v } := rfl

/-- Settles O1: the operand byte goes to the register and to `SetNZ`. -/
theorem loadsWriteRegisterAndNZ : Obligations.LoadsWriteRegisterAndNZ := by
  refine ⟨aluOpcodes_of_table (fun _ => rfl) rfl rfl rfl rfl rfl rfl rfl rfl,
    ⟨opcode2_of_table rfl fun _ => rfl, opcode2_of_table rfl fun _ => rfl, opcode2_of_table rfl fun _ => rfl,
     opcode3_of_table rfl fun _ => rfl, opcode3_of_table rfl fun _ => rfl⟩,
    ⟨opcode2_of_table rfl fun _ => rfl, opcode2_of_table rfl fun _ => rfl, opcode2_of_table rfl fun _ => rfl,
     opcode3_of_table rfl fun _ => rfl, opcode3_of_table rfl fun _ => rfl⟩, fun o s => ?_, fun o s => ?_, fun o s => ?_⟩
  · simp only [exec, execLda, load_eq_operand, setNZ_eq]
    rfl
  · simp only [exec, execLdx, load_eq_operand, setNZ_eq]
    rfl
  · simp only [exec, execLdy, load_eq_operand, setNZ_eq]
    rfl

/-! ## Stores -/

@[simp] theorem locate_cfg (s : State) (o : AddrOperand) : (locate s o).state.cfg = s.cfg := by
  rw [locate_state]

/-- The decoder's accesses leave the default memory serving every address where it did. -/
theorem locate_onRam {s : State} (h : s.OnRam) (o : AddrOperand) : (locate s o).state.OnRam := by
  rwa [State.OnRam, locate_cfg]

/-- A store of a register ends at the one write after the decoder's accesses, which over the default memory leaves the
state of a substituted bus alone. -/
theorem storeByte_busEnds (s : State) (o : AddrOperand) (v : Byte) :
    BusEnds s (storeByte s o v) (memWrite (locate s o).state (locate s o).addr v)
      ((locate s o).state.bus ++ [.write (locate s o).addr v]) := by
  refine ⟨rfl, rfl, fun h => ?_⟩
  rw [storeByte, memWrite_ram v ((locate_onRam h o).substitutes _)]
  exact ⟨by rw [locate_state_ram h], rfl⟩

/-- The write after the decoder's accesses is the one write to the default memory of the state before. -/
theorem storeByte_storedByte (s : State) (o : AddrOperand) (v : Byte) :
    StoredByte s (storeByte s o v) (locate s o).addr v := by
  have h := memWrite_storedByte (locate s o).state (locate s o).addr v
  simpa only [storeByte, StoredByte, StoredAt, locate_cfg, locate_byteAt] using h

/-- An instruction whose meaning is `storeByte` of a register is a store in the claims' sense
(42_load_store_transfer_stack.md R153 to R155). -/
theorem storeRule_of_storeByte {i : Instr} {o : AddrOperand} {r : State → Byte}
    (h : ∀ s, exec i s = .next (storeByte s o (r s))) : StoreRule i o r := fun s =>
  ⟨storeByte s o (r s), h s, by rw [storeByte_state], storeByte_busEnds s o (r s), storeByte_storedByte s o (r s)⟩

/-- Settles O2: each of the three is `storeByte` of its register. -/
theorem storesWriteOneByteOnly : Obligations.StoresWriteOneByteOnly :=
  ⟨⟨opcode2_of_table rfl fun _ => rfl, opcode2_of_table rfl fun _ => rfl, opcode3_of_table rfl fun _ => rfl,
    opcode3_of_table rfl fun _ => rfl, opcode3_of_table rfl fun _ => rfl, opcode2_of_table rfl fun _ => rfl,
    opcode2_of_table rfl fun _ => rfl⟩,
   ⟨opcode2_of_table rfl fun _ => rfl, opcode2_of_table rfl fun _ => rfl, opcode3_of_table rfl fun _ => rfl⟩,
   ⟨opcode2_of_table rfl fun _ => rfl, opcode2_of_table rfl fun _ => rfl, opcode3_of_table rfl fun _ => rfl⟩,
   fun _ => storeRule_of_storeByte fun _ => rfl, fun _ => storeRule_of_storeByte fun _ => rfl,
   fun _ => storeRule_of_storeByte fun _ => rfl⟩

/-! ## Transfers -/

/-- An entry of format F1 is the row of its opcode (30_encoding.md R82, R86). -/
theorem opcode1_of_table {op : Byte} {base : Nat} {i : Instr} (h : opcodeTable op = .f1 i)
    (hbase : baseCycles i = base) : Opcode1 op base i :=
  ⟨fun rest => by simp [decode, h], hbase⟩

/-- Settles O3: a register is set to another, and five of the six set N and Z by `SetNZ`. -/
theorem transfersCopyRegisters : Obligations.TransfersCopyRegisters := by
  refine ⟨⟨opcode1_of_table rfl rfl, opcode1_of_table rfl rfl, opcode1_of_table rfl rfl, opcode1_of_table rfl rfl,
    opcode1_of_table rfl rfl, opcode1_of_table rfl rfl⟩, fun s => ?_⟩
  simp only [exec, execTax, execTay, execTxa, execTya, execTsx, execTxs, setNZ_eq]
  exact ⟨rfl, rfl, rfl, rfl, rfl, rfl⟩

/-! ## Stack instructions -/

/-- Settles O4: PHA and PHP are `Push8` of A and of the packed P, which the claim about the stack primitives describes. -/
theorem pushesWriteOneStackByte : Obligations.PushesWriteOneStackByte := by
  obtain ⟨hpush, -⟩ := stackPrimitivesStayInPageOne
  exact ⟨⟨opcode1_of_table rfl rfl, opcode1_of_table rfl rfl⟩, fun s => ⟨_, rfl, hpush s s.a⟩,
    fun s => ⟨_, rfl, hpush s (packP s.p true)⟩⟩

/-- A read over the default memory answers the byte held there and is one transaction (20_memory.md R52). -/
theorem memRead_busEnds_ram {s : State} (h : s.OnRam) (a : Word) :
    (memRead s a).1 = s.byteAt a ∧
      BusEnds s (memRead s a).2 (memRead s a).2 (s.bus ++ [.read a (memRead s a).1]) := by
  rw [memRead_ram (h.substitutes a)]
  exact ⟨rfl, rfl, rfl, fun _ => ⟨rfl, rfl⟩⟩

/-- Settles O5: `Pull8` is one read at the new SP, and its byte goes to A and `SetNZ`, or through `UnpackP` to the flags. -/
theorem pullsReadOneStackByte : Obligations.PullsReadOneStackByte := by
  obtain ⟨-, hpull, -⟩ := stackPrimitivesStayInPageOne
  refine ⟨⟨opcode1_of_table rfl rfl, opcode1_of_table rfl rfl⟩, fun s => ?_⟩
  obtain ⟨hpull8, -⟩ := hpull s
  refine ⟨?_, ?_, fun h => memRead_busEnds_ram h _⟩
  · simp only [exec, execPla, hpull8, setNZ_eq]
    rfl
  · simp only [exec, execPlp, hpull8, unpackP]
    rfl

end Sys2Proof.Machine

/-! The statement of 43_arithmetic_compare.md about the compares: three flags from a difference that is not stored. -/

namespace Sys2Proof.Machine

open Sys2Proof Sys2Proof.Claims

/-- A compare writes the flags of the claims' word for it, and nothing else (41_flag_and_stack_primitives.md R132). -/
theorem compare_eq (s : State) (reg m : Byte) : s.compare reg m = { s with p := compareFlags s.p reg m } := rfl

/-- Settles O8: a compare of A, X or Y with the operand byte, after the operand's accesses. -/
theorem comparesSetCZN : Obligations.ComparesSetCZN := by
  refine ⟨aluOpcodes_of_table (fun _ => rfl) rfl rfl rfl rfl rfl rfl rfl rfl,
    ⟨opcode2_of_table rfl fun _ => rfl, opcode2_of_table rfl fun _ => rfl, opcode3_of_table rfl fun _ => rfl⟩,
    ⟨opcode2_of_table rfl fun _ => rfl, opcode2_of_table rfl fun _ => rfl, opcode3_of_table rfl fun _ => rfl⟩,
    fun o s => ?_, fun o s => ?_, fun o s => ?_⟩
  · simp only [exec, execCmp, load_eq_operand, compare_eq]
    rfl
  · simp only [exec, execCpx, load_eq_operand, compare_eq]
  · simp only [exec, execCpy, load_eq_operand, compare_eq]

end Sys2Proof.Machine

/-! The statements of 44_bitwise.md: the logic instructions by the one function they share, and BIT by the three flags it
writes. -/

namespace Sys2Proof.Machine

open Sys2Proof Sys2Proof.Claims

/-- The shared function of AND, ORA and EOR in the claims' words for the operand and `SetNZ` (R190 to R192). -/
theorem logicToA_eq_operand (f : Byte → Byte → Byte) (o : Source) (s : State) :
    logicToA f o s = { s with
      a := f s.a (operandByte s o)
      p := withNZ s.p (f s.a (operandByte s o))
      cycles := s.cycles + (operandCrossed s o).toNat
      device := (operandState s o).device
      bus := (operandState s o).bus } := by
  rw [logicToA_eq, load_eq_operand]
  rfl

/-- An instruction whose meaning is `logicToA` of a function keeps the claim's rule for that function. -/
theorem logicRule_of_logicToA {i : AluOperand → Instr} {f : Byte → Byte → Byte}
    (h : ∀ o s, exec (i o) s = .next (logicToA f o.source s)) : LogicRule i f :=
  fun o s => (h o s).trans (congrArg Host.Outcome.next (logicToA_eq_operand f o.source s))

/-- Settles O9: each of the three is `logicToA` of its function. -/
theorem logicWritesA : Obligations.LogicWritesA :=
  ⟨aluOpcodes_of_table (fun _ => rfl) rfl rfl rfl rfl rfl rfl rfl rfl,
   aluOpcodes_of_table (fun _ => rfl) rfl rfl rfl rfl rfl rfl rfl rfl,
   aluOpcodes_of_table (fun _ => rfl) rfl rfl rfl rfl rfl rfl rfl rfl,
   logicRule_of_logicToA fun _ _ => rfl, logicRule_of_logicToA fun _ _ => rfl, logicRule_of_logicToA fun _ _ => rfl⟩

/-- Settles O10: after the operand's accesses, only Z, N and V are written, Z from `A & M` and the others from M. -/
theorem bitTestsWithoutWritingA : Obligations.BitTestsWithoutWritingA := by
  refine ⟨⟨opcode2_of_table rfl fun _ => rfl, opcode3_of_table rfl fun _ => rfl⟩, fun o s => ?_⟩
  simp only [exec, execBit, load_eq_operand]
  rfl

end Sys2Proof.Machine

/-! The statement of 45_shift_rotate.md: the four byte functions in numbers, and the one shape they share, a read and a write
of one address. -/

namespace Sys2Proof.Machine

open Sys2Proof Sys2Proof.Claims

/-! ## A write after the operand was read -/

/-- Over the default memory the operand byte is the byte at the effective address. -/
theorem operandByte_mem_ram {s : State} (h : s.OnRam) (o : AddrOperand) :
    operandByte s (.mem o) = s.byteAt (locate s o).addr :=
  load_mem_value_ram h o

/-- Over the default memory the operand's accesses are the decoder's and one read. -/
theorem operandState_mem_ram {s : State} (h : s.OnRam) (o : AddrOperand) :
    operandState s (.mem o) = { s with
      bus := (locate s o).state.bus ++ [.read (locate s o).addr (operandByte s (.mem o))] } := by
  rw [operandByte_mem_ram h]
  exact congrArg Loaded.state (load_mem_ram h o)

@[simp] theorem operandState_cfg (s : State) (o : AddrOperand) : (operandState s (.mem o)).cfg = s.cfg :=
  locate_cfg s o

@[simp] theorem operandState_byteAt (s : State) (o : AddrOperand) (a : Word) :
    (operandState s (.mem o)).byteAt a = s.byteAt a :=
  locate_byteAt s o a

/-- The write after the operand was read is the one write to the default memory of the state before. -/
theorem memWrite_operandState_storedByte (s : State) (o : AddrOperand) (a : Word) (r : Byte) :
    StoredByte s (memWrite (operandState s (.mem o)) a r) a r := by
  have h := memWrite_storedByte (operandState s (.mem o)) a r
  simpa only [StoredByte, StoredAt, operandState_cfg, operandState_byteAt] using h

/-- A read-modify-write ends at the write after the operand's accesses, which over the default memory are the decoder's, one
read and one write (R200, 46_inc_dec.md R210). -/
theorem memWrite_operandState_busEnds (s : State) (o : AddrOperand) (r : Byte) :
    let t := memWrite (operandState s (.mem o)) (locate s o).addr r
    BusEnds s t t ((locate s o).state.bus ++
      [.read (locate s o).addr (operandByte s (.mem o)), .write (locate s o).addr r]) := by
  refine ⟨rfl, rfl, fun h => ?_⟩
  have hr : (operandState s (.mem o)).OnRam := locate_onRam h o
  rw [memWrite_ram r (hr.substitutes _), operandState_mem_ram h]
  exact ⟨rfl, List.append_assoc ..⟩

/-! ## Shifts and rotates -/

/-- A shift or rotate of memory is the write after the operand was read, and C, Z and N (R200). -/
theorem shiftTarget_mem_eq_memWrite (f : Byte → Bool → Byte × Bool) (o : AddrOperand) (s : State) :
    let r := f (operandByte s (.mem o)) s.p.c
    shiftTarget f (.mem o) s = { memWrite (operandState s (.mem o)) (locate s o).addr r.1 with
      p := { withNZ s.p r.1 with c := r.2 } } := by
  simp only [shiftTarget, operandByte, operandState, setNZ_eq]
  rw [locate_state]
  rfl

/-- The rows of a shift or rotate, from its entries in the table. -/
theorem shiftOpcodes_of_table {i : ShiftOperand → Instr} {acc zp zpx abs abx : Byte}
    (hbase : ∀ o, baseCycles (i o) = shiftCycles o) (hacc : opcodeTable acc = .f1 (i .acc))
    (hzp : opcodeTable zp = .f2 fun d => i (.zp d)) (hzpx : opcodeTable zpx = .f2 fun d => i (.zpx d))
    (habs : opcodeTable abs = .f3 fun w => i (.abs w)) (habx : opcodeTable abx = .f3 fun w => i (.abx w)) :
    ShiftOpcodes i acc zp zpx abs abx :=
  ⟨opcode1_of_table hacc (hbase _), opcode2_of_table hzp fun _ => hbase _, opcode2_of_table hzpx fun _ => hbase _,
   opcode3_of_table habs fun _ => hbase _, opcode3_of_table habx fun _ => hbase _⟩

/-- An instruction whose meaning is `shiftTarget` of a function keeps the claim's rule for that function's reading in
numbers. -/
theorem shiftRule_of_shiftTarget {i : ShiftOperand → Instr} {g : Byte → Bool → Byte × Bool} {f : Nat → Nat → Nat}
    {carry : Byte → Bool} (hexec : ∀ o s, exec (i o) s = .next (shiftTarget g o.target s))
    (hg : ∀ v c, g v c = (BitVec.ofNat 8 (f v.toNat c.toNat), carry v)) : ShiftRule i f carry := by
  intro o s
  rw [hexec]
  cases o.target with
  | acc =>
    rw [shiftTarget_acc, hg]
    rfl
  | mem m =>
    refine ⟨_, rfl, ?_⟩
    rw [shiftTarget_mem_eq_memWrite, hg]
    refine ⟨?_, memWrite_operandState_busEnds s m _, memWrite_operandState_storedByte s m _ _,
      fun h => operandByte_mem_ram h m⟩
    simp only [operandState]
    rw [locate_state]
    rfl

/-! ## The byte functions in numbers (R201 to R204)

The bit that a rotate takes from C falls where the shift has left a 0, so the `or` of the two is their sum. -/

theorem aslByte_eq (v : Byte) (cin : Bool) : aslByte v cin = (BitVec.ofNat 8 (2 * v.toNat), v.getLsbD 7) := by
  refine Prod.ext (BitVec.eq_of_toNat_eq ?_) rfl
  simp [aslByte, Nat.shiftLeft_eq, Nat.mul_comm]

theorem lsrByte_eq (v : Byte) (cin : Bool) : lsrByte v cin = (BitVec.ofNat 8 (v.toNat / 2), v.getLsbD 0) := by
  refine Prod.ext (BitVec.eq_of_toNat_eq ?_) rfl
  have hv : v.toNat / 2 < 256 := by omega
  simp [lsrByte, Nat.shiftRight_eq_div_pow, Nat.mod_eq_of_lt hv]

theorem shiftLeft_and_carry_eq_zero (v : Byte) (cin : Bool) : v <<< 1 &&& BitVec.ofNat 8 cin.toNat = 0 := by
  cases cin with
  | false => exact BitVec.and_zero
  | true =>
    ext i hi
    simpa using fun hne _ => hne

theorem shiftRight_and_carry_eq_zero (v : Byte) (cin : Bool) : v >>> 1 &&& BitVec.ofNat 8 (cin.toNat * 128) = 0 := by
  cases cin with
  | false => exact BitVec.and_zero
  | true => exact (and_0x80_eq_zero_iff _).2 (by simp)

theorem rolByte_eq (v : Byte) (cin : Bool) :
    rolByte v cin = (BitVec.ofNat 8 (2 * v.toNat + cin.toNat), v.getLsbD 7) := by
  refine Prod.ext (BitVec.eq_of_toNat_eq ?_) rfl
  rw [rolByte, ← BitVec.add_eq_or_of_and_eq_zero _ _ (shiftLeft_and_carry_eq_zero v cin)]
  simp [Nat.shiftLeft_eq, Nat.mul_comm]

theorem rorByte_eq (v : Byte) (cin : Bool) :
    rorByte v cin = (BitVec.ofNat 8 (v.toNat / 2 + 128 * cin.toNat), v.getLsbD 0) := by
  refine Prod.ext (BitVec.eq_of_toNat_eq ?_) rfl
  rw [rorByte, ← BitVec.add_eq_or_of_and_eq_zero _ _ (shiftRight_and_carry_eq_zero v cin)]
  simp [Nat.shiftRight_eq_div_pow, Nat.mul_comm]

/-- Settles O11: each of the four is `shiftTarget` of its byte function. -/
theorem shiftsAndRotatesMoveOneBit : Obligations.ShiftsAndRotatesMoveOneBit :=
  ⟨shiftOpcodes_of_table (fun _ => rfl) rfl rfl rfl rfl rfl, shiftOpcodes_of_table (fun _ => rfl) rfl rfl rfl rfl rfl,
   shiftOpcodes_of_table (fun _ => rfl) rfl rfl rfl rfl rfl, shiftOpcodes_of_table (fun _ => rfl) rfl rfl rfl rfl rfl,
   shiftRule_of_shiftTarget (fun _ _ => rfl) aslByte_eq, shiftRule_of_shiftTarget (fun _ _ => rfl) lsrByte_eq,
   shiftRule_of_shiftTarget (fun _ _ => rfl) rolByte_eq, shiftRule_of_shiftTarget (fun _ _ => rfl) rorByte_eq⟩

end Sys2Proof.Machine

/-! The statements of 46_inc_dec.md: a step of a byte in numbers, and the shape that INC and DEC share, a read and a write of
one address. -/

namespace Sys2Proof.Machine

open Sys2Proof Sys2Proof.Claims

/-! ## The steps in numbers (R210, R211) -/

theorem add_one_eq_ofNat (v : Byte) : v + 1 = BitVec.ofNat 8 (v.toNat + 1) :=
  BitVec.eq_of_toNat_eq (by simp)

/-- One less modulo 256 is 255 more. -/
theorem sub_one_eq_ofNat (v : Byte) : v - 1 = BitVec.ofNat 8 (v.toNat + 255) := by
  refine BitVec.eq_of_toNat_eq ?_
  simp [BitVec.toNat_sub, Nat.add_comm]

/-! ## INC and DEC -/

/-- A step of memory is the write after the operand was read, and Z and N (R210). -/
theorem modifyByte_eq_memWrite (f : Byte → Byte) (o : AddrOperand) (s : State) :
    let r := f (operandByte s (.mem o))
    modifyByte f o s = { memWrite (operandState s (.mem o)) (locate s o).addr r with p := withNZ s.p r } := by
  simp only [modifyByte, operandByte, operandState, setNZ_eq]
  rw [locate_state]
  rfl

/-- The rows of INC or DEC, from its entries in the table. -/
theorem incOpcodes_of_table {i : IncOperand → Instr} {zp zpx abs abx : Byte}
    (hbase : ∀ o, baseCycles (i o) = incCycles o) (hzp : opcodeTable zp = .f2 fun d => i (.zp d))
    (hzpx : opcodeTable zpx = .f2 fun d => i (.zpx d)) (habs : opcodeTable abs = .f3 fun w => i (.abs w))
    (habx : opcodeTable abx = .f3 fun w => i (.abx w)) : IncOpcodes i zp zpx abs abx :=
  ⟨opcode2_of_table hzp fun _ => hbase _, opcode2_of_table hzpx fun _ => hbase _,
   opcode3_of_table habs fun _ => hbase _, opcode3_of_table habx fun _ => hbase _⟩

/-- An instruction whose meaning is `modifyByte` of a function keeps the claim's rule for that function's reading in
numbers. -/
theorem modifyRule_of_modifyByte {i : IncOperand → Instr} {g : Byte → Byte} {f : Nat → Nat}
    (hexec : ∀ o s, exec (i o) s = .next (modifyByte g o.addr s)) (hg : ∀ v, g v = BitVec.ofNat 8 (f v.toNat)) :
    ModifyRule i f := by
  intro o s
  refine ⟨_, hexec o s, ?_⟩
  rw [modifyByte_eq_memWrite, hg]
  refine ⟨?_, memWrite_operandState_busEnds s o.addr _, memWrite_operandState_storedByte s o.addr _ _,
    fun h => operandByte_mem_ram h o.addr⟩
  simp only [operandState]
  rw [locate_state]
  rfl

/-- Settles O12: each of the two is `modifyByte` of its step. -/
theorem incDecStepMemory : Obligations.IncDecStepMemory :=
  ⟨incOpcodes_of_table (fun _ => rfl) rfl rfl rfl rfl, incOpcodes_of_table (fun _ => rfl) rfl rfl rfl rfl,
   modifyRule_of_modifyByte (fun _ _ => rfl) add_one_eq_ofNat,
   modifyRule_of_modifyByte (fun _ _ => rfl) sub_one_eq_ofNat⟩

/-! ## INX, DEX, INY and DEY -/

/-- Settles O13: the stepped register and `SetNZ` of it, with the step read in numbers. -/
theorem indexStepsAreModulo256 : Obligations.IndexStepsAreModulo256 := by
  refine ⟨⟨opcode1_of_table rfl rfl, opcode1_of_table rfl rfl, opcode1_of_table rfl rfl, opcode1_of_table rfl rfl⟩,
    fun s => ?_⟩
  simp only [exec, execInx, execDex, execIny, execDey, setNZ_eq, add_one_eq_ofNat, sub_one_eq_ofNat]
  exact ⟨rfl, rfl, rfl, rfl⟩

end Sys2Proof.Machine

/-! The statement of 47_branches.md: the penalty in numbers, and the rule that the eight branches share. -/

namespace Sys2Proof.Machine

open Sys2Proof Sys2Proof.Claims

theorem hiByte_eq_iff (w u : Word) : hiByte w = hiByte u ↔ w.toNat / 256 = u.toNat / 256 := by
  rw [← BitVec.toNat_inj, hiByte_toNat, hiByte_toNat]

/-- The penalty counts one for the taken branch and one for the other page (R220). -/
theorem branchPenalty_eq (pc target : Word) :
    branchPenalty pc target = 1 + (if target.toNat / 256 = pc.toNat / 256 then 0 else 1) := by
  simp only [branchPenalty, hiByte_eq_iff]
  split <;> rfl

/-- An instruction whose meaning is `branchIf` of a test of the flags keeps the claim's rule for that test. -/
theorem branchRule_of_branchIf {i : Byte → Instr} {taken : Flags → Bool}
    (hexec : ∀ d s, exec (i d) s = .next (branchIf (taken s.p) d s)) : BranchRule i taken := by
  intro d s
  refine ⟨_, hexec d s, fun hnot => ?_, fun htaken => ?_⟩
  · rw [branchIf_eq, hnot]
    rfl
  · rw [branchIf_eq, if_pos htaken, branchPenalty_eq, ← Nat.add_assoc]
    exact ⟨branchTarget_toNat s.pc d, rfl⟩

/-- Settles O14: each of the eight is `branchIf` of the test of its flag. -/
theorem branchesTestOneFlag : Obligations.BranchesTestOneFlag :=
  ⟨⟨opcode2_of_table rfl fun _ => rfl, opcode2_of_table rfl fun _ => rfl, opcode2_of_table rfl fun _ => rfl,
    opcode2_of_table rfl fun _ => rfl, opcode2_of_table rfl fun _ => rfl, opcode2_of_table rfl fun _ => rfl,
    opcode2_of_table rfl fun _ => rfl, opcode2_of_table rfl fun _ => rfl⟩,
   branchRule_of_branchIf fun _ _ => rfl, branchRule_of_branchIf fun _ _ => rfl, branchRule_of_branchIf fun _ _ => rfl,
   branchRule_of_branchIf fun _ _ => rfl, branchRule_of_branchIf fun _ _ => rfl, branchRule_of_branchIf fun _ _ => rfl,
   branchRule_of_branchIf fun _ _ => rfl, branchRule_of_branchIf fun _ _ => rfl⟩

end Sys2Proof.Machine

/-! The statement of 20_memory.md about the form of the memory: the first cell of a canonical memory is the lowest address
that does not read as unlisted. -/

namespace Sys2Proof.Machine

open Sys2Proof Sys2Proof.Claims

/-- A memory canonical from `lo` up lists nothing below `lo`. -/
theorem Memory.le_of_read_ne_unlisted {m : Memory} {lo a : Nat} (hm : Memory.wfFrom lo m = true)
    (ha : Memory.read m a ≠ unlistedByte) : lo ≤ a := by
  induction m generalizing lo with
  | nil => exact absurd rfl ha
  | cons cell rest ih =>
    obtain ⟨b, v⟩ := cell
    obtain ⟨hlo, -, -, hrest⟩ := Memory.wfFrom_cons.mp hm
    by_cases hb : b = a
    · exact hb ▸ hlo
    · have hnext : b + 1 ≤ a := ih hrest (by simpa [Memory.read, hb] using ha)
      omega

theorem Memory.read_eq_unlisted_of_lt {m : Memory} {lo a : Nat} (hm : Memory.wfFrom lo m = true) (ha : a < lo) :
    Memory.read m a = unlistedByte :=
  by_contra fun hne => absurd (Memory.le_of_read_ne_unlisted hm hne) (by omega)

theorem Memory.read_cons_self (b : Nat) (v : Byte) (rest : Memory) : Memory.read ((b, v) :: rest) b = v := by
  simp [Memory.read]

/-- The first cell of a canonical memory is not above an address at which it reads like a listed byte. -/
theorem Memory.first_le_of_read_eq {lo b k : Nat} {v u : Byte} {rest : Memory}
    (hm : Memory.wfFrom lo ((b, v) :: rest) = true) (hk : Memory.read ((b, v) :: rest) k = u) (hu : u ≠ unlistedByte) :
    b ≤ k := by
  obtain ⟨-, hb, hv, hrest⟩ := Memory.wfFrom_cons.mp hm
  exact Memory.le_of_read_ne_unlisted (Memory.wfFrom_cons.mpr ⟨le_refl b, hb, hv, hrest⟩) (hk ▸ hu)

/-- Behind equal first cells the rest reads alike: at the first cell's address neither rest lists anything. -/
theorem Memory.read_tail_eq {b n : Nat} {v : Byte} {rest rest' : Memory} (hrest : Memory.wfFrom (b + 1) rest = true)
    (hrest' : Memory.wfFrom (b + 1) rest' = true)
    (hread : Memory.read ((b, v) :: rest) n = Memory.read ((b, v) :: rest') n) :
    Memory.read rest n = Memory.read rest' n := by
  by_cases hbn : b = n
  · have hn : n < b + 1 := by omega
    rw [Memory.read_eq_unlisted_of_lt hrest hn, Memory.read_eq_unlisted_of_lt hrest' hn]
  · simpa [Memory.read, hbn] using hread

/-- Cell by cell from `lo` up: the lists end together, and where they do not, each has its first cell no higher than the
other. -/
theorem Memory.eq_of_read_eq {m m' : Memory} {lo : Nat} (hm : Memory.wfFrom lo m = true)
    (hm' : Memory.wfFrom lo m' = true) (hread : ∀ n < 65536, Memory.read m n = Memory.read m' n) : m = m' := by
  induction m generalizing m' lo with
  | nil =>
    cases m' with
    | nil => rfl
    | cons cell' rest' =>
      obtain ⟨k, u⟩ := cell'
      obtain ⟨-, hk, hu, -⟩ := Memory.wfFrom_cons.mp hm'
      exact absurd ((hread k hk).trans (Memory.read_cons_self k u rest')).symm hu
  | cons cell rest ih =>
    obtain ⟨b, v⟩ := cell
    obtain ⟨-, hb, hv, hrest⟩ := Memory.wfFrom_cons.mp hm
    have hb' : Memory.read m' b = v := (hread b hb).symm.trans (Memory.read_cons_self b v rest)
    cases m' with
    | nil => exact absurd hb'.symm hv
    | cons cell' rest' =>
      obtain ⟨k, u⟩ := cell'
      obtain ⟨-, hk, hu, hrest'⟩ := Memory.wfFrom_cons.mp hm'
      have hk' : Memory.read ((b, v) :: rest) k = u := (hread k hk).trans (Memory.read_cons_self k u rest')
      obtain rfl : b = k :=
        Nat.le_antisymm (Memory.first_le_of_read_eq hm hk' hu) (Memory.first_le_of_read_eq hm' hb' hv)
      obtain rfl : u = v := (Memory.read_cons_self b u rest').symm.trans hb'
      rw [ih hrest hrest' fun n hn => Memory.read_tail_eq hrest hrest' (hread n hn)]

/-- Settles O31: every number below 65536 is the number of a word. -/
theorem canonicalMemoriesAreExtensional : Obligations.CanonicalMemoriesAreExtensional := by
  intro m m' hm hm' hread
  refine Memory.eq_of_read_eq hm hm' fun n hn => ?_
  have h := hread (BitVec.ofNat 16 n)
  rwa [BitVec.toNat_ofNat, Nat.mod_eq_of_lt hn] at h

end Sys2Proof.Machine

/-! The statements of 48_jumps_interrupt_control.md but BRK's: each instruction by the stack primitives and the word read
that it is made of. -/

namespace Sys2Proof.Machine

open Sys2Proof Sys2Proof.Claims

/-- JMP indirect is the word read through the pointer (48_jumps_interrupt_control.md R240). -/
theorem exec_jmp_ind (w : Word) (s : State) :
    exec (.jmp (.ind w)) s =
      .next ((readWord s w (samePageNext w)).2.setPC (readWord s w (samePageNext w)).1) := rfl

/-- Settles O15: ABS makes no access, IND is one word read within the pointer's page. -/
theorem jmpSetsPC : Obligations.JmpSetsPC := by
  refine ⟨⟨opcode3_of_table rfl fun _ => rfl, opcode3_of_table rfl fun _ => rfl⟩, fun w s => ⟨rfl, rfl, fun h => ?_⟩⟩
  rw [exec_jmp_ind, readWord_ram h]
  rfl

/-- Settles O16: JSR is `Push16` of the last byte's address, which the claim about the stack primitives describes, and a new
PC. -/
theorem jsrPushesLastByteAddress : Obligations.JsrPushesLastByteAddress := by
  obtain ⟨-, -, hpush, -⟩ := stackPrimitivesStayInPageOne
  refine ⟨opcode3_of_table rfl fun _ => rfl, fun w s => ⟨_, rfl, ?_⟩⟩
  obtain ⟨hstate, hbus, hstored⟩ := hpush s (s.pc - 1)
  exact ⟨congrArg (State.setPC · w) hstate, hbus, hstored⟩

/-- Settles O17: RTS is `Pull16` and a new PC. -/
theorem rtsReturnsPastPulledAddress : Obligations.RtsReturnsPastPulledAddress := by
  obtain ⟨-, -, -, hpull, -⟩ := stackPrimitivesStayInPageOne
  refine ⟨opcode1_of_table rfl rfl, fun s => ?_⟩
  obtain ⟨hpull16, hram⟩ := hpull s
  refine ⟨?_, hram⟩
  simp only [exec, execRts, hpull16]
  rfl

/-- Settles O29: the word pulled is the word pushed, one less than the PC to return to. -/
theorem rtsUndoesJsr : Obligations.RtsUndoesJsr := by
  intro w s t h hjsr t' ht' hsp hhi hlo
  obtain rfl := Host.Outcome.next.inj hjsr
  rw [slot_eq_stackAddr] at hhi hlo
  obtain ⟨hword, hsp'⟩ := pull16_of_pushed ht' (hsp.trans (push16_sp s (s.pc - 1)))
    (hhi.trans (push16_byteAt_hi h (s.pc - 1))) (hlo.trans (push16_byteAt_lo h (s.pc - 1)))
  refine ⟨_, rfl, ?_, hsp'⟩
  rw [State.setPC_pc, hword]
  exact BitVec.sub_add_cancel s.pc 1

/-- The return from an exception is three reads from the slot above SP up (R244). -/
theorem returnFromInterrupt_eq (s : State) :
    let p := memRead s (stackAddr (s.sp + 1))
    let lo := memRead p.2 (stackAddr (s.sp + 2))
    let hi := memRead lo.2 (stackAddr (s.sp + 3))
    returnFromInterrupt s = { hi.2 with pc := mkWord hi.1 lo.1, sp := s.sp + 3, p := unpackP p.1 } := by
  have e2 : s.sp + 2 = s.sp + 1 + 1 := by bv_omega
  have e3 : s.sp + 3 = s.sp + 1 + 1 + 1 := by bv_omega
  rw [e2, e3]
  rfl

/-- Settles O19: RTI is the return from an exception. -/
theorem rtiRestoresFlagsAndPC : Obligations.RtiRestoresFlagsAndPC := by
  simp only [Obligations.RtiRestoresFlagsAndPC, slot_eq_stackAddr]
  refine ⟨opcode1_of_table rfl rfl, fun s => ⟨congrArg Host.Outcome.next (returnFromInterrupt_eq s), fun h => ?_⟩⟩
  simp [BusEnds, memRead_ram, h.substitutes, State.byteAt]

end Sys2Proof.Machine

/-! The statements of 49_flags_nop_undefined.md: one flag each, and the 105 bytes that do nothing. -/

namespace Sys2Proof.Machine

open Sys2Proof Sys2Proof.Claims

/-- Settles O20: each setter is the update of its one flag. -/
theorem flagSettersAndNop : Obligations.FlagSettersAndNop :=
  ⟨⟨opcode1_of_table rfl rfl, opcode1_of_table rfl rfl, opcode1_of_table rfl rfl, opcode1_of_table rfl rfl,
    opcode1_of_table rfl rfl, opcode1_of_table rfl rfl, opcode1_of_table rfl rfl, opcode1_of_table rfl rfl⟩,
   fun _ => ⟨rfl, rfl, rfl, rfl, rfl, rfl, rfl, rfl⟩⟩

/-- Settles O21: the entry of an unassigned byte stands for itself, and its meaning writes `status` only. -/
theorem undefinedOpcodesDoNothing : Obligations.UndefinedOpcodesDoNothing := by
  refine ⟨rfl, by decide, fun b hb => ?_, fun b s => ⟨fun hlax => ?_, fun hstrict => ?_⟩⟩
  · exact opcode1_of_table (opcodeTable_undefined b (List.contains_iff_mem.mpr hb)) rfl
  · simp [exec, execUndef, hlax]
  · simp [exec, execUndef, hstrict, State.setStatus]

end Sys2Proof.Machine

/-! The statements of 60_exceptions.md, and BRK, which enters as an interrupt does: the entry as three writes and two reads,
the sampling by its cases, and the status and cycles that an instruction adds to those of the sampling and the fetch. -/

namespace Sys2Proof.Machine

open Sys2Proof Sys2Proof.Claims

/-! ## The entry to an exception -/

/-- The state after the three writes of an entry, from SP down (60_exceptions.md R277). -/
def pushedFrame (s : State) (b : Bool) : State :=
  memWrite (memWrite (memWrite s (stackAddr s.sp) (hiByte s.pc)) (stackAddr (s.sp - 1)) (loByte s.pc))
    (stackAddr (s.sp - 2)) (packP s.p b)

/-- The entry is those three writes, then the word read from the vector. -/
theorem interruptEntry_eq (s : State) (vec : Word) (b : Bool) :
    interruptEntry s vec b = { (readWord (pushedFrame s b) vec (vec + 1)).2 with
      pc := (readWord (pushedFrame s b) vec (vec + 1)).1, sp := s.sp - 3, p := { s.p with i := true } } := by
  have e2 : s.sp - 2 = s.sp - 1 - 1 := by bv_omega
  have e3 : s.sp - 3 = s.sp - 1 - 1 - 1 := by bv_omega
  rw [pushedFrame, e2, e3]
  rfl

theorem stackAddr_ne {p q : Byte} (h : p ≠ q) : stackAddr p ≠ stackAddr q := fun e => h (stackAddr_inj e)

/-- No address above page one is a stack address. -/
theorem ne_stackAddr_of_lt {a : Word} (h : 0x01FF < a.toNat) (sp : Byte) : a ≠ stackAddr sp := by
  rintro rfl
  rw [stackAddr_toNat] at h
  omega

/-- Three writes to three addresses store the three bytes. -/
theorem memWrite_memWrite_memWrite_stored (s : State) {a b c : Word} (u v w : Byte) (hab : a ≠ b) (hac : a ≠ c)
    (hbc : b ≠ c) :
    let t := memWrite (memWrite (memWrite s a u) b v) c w
    StoredAt s t a u ∧ StoredAt s t b v ∧ StoredAt s t c w ∧
      ∀ d, d ≠ a → d ≠ b → d ≠ c → t.byteAt d = s.byteAt d := by
  obtain ⟨ha, hb, hother⟩ := memWrite_memWrite_stored s u v hab
  obtain ⟨hc, hcNe⟩ := memWrite_storedByte (memWrite (memWrite s a u) b v) c w
  refine ⟨(hcNe a hac).trans ha, (hcNe b hbc).trans hb, ?_,
    fun d hda hdb hdc => (hcNe d hdc).trans (hother d hda hdb)⟩
  rw [StoredAt, memWrite_cfg, memWrite_cfg, hother c hac.symm hbc.symm] at hc
  exact hc

/-- The entry leaves PC and P of before on the stack, whatever the vector. -/
theorem interruptEntry_storedFrame (s : State) (vec : Word) (b : Bool) :
    StoredFrameOnStack s (interruptEntry s vec b) s.sp s.pc (packP s.p b) := by
  simp only [StoredFrameOnStack, slot_eq_stackAddr]
  rw [interruptEntry_eq]
  exact memWrite_memWrite_memWrite_stored s _ _ _ (stackAddr_ne (by bv_omega)) (stackAddr_ne (by bv_omega))
    (stackAddr_ne (by bv_omega))

/-- The pushes of an entry leave every address above page one alone. -/
theorem entryMemory_read_of_lt (s : State) (b : Bool) {a : Word} (h : 0x01FF < a.toNat) :
    Memory.read (entryMemory s b) a.toNat = s.byteAt a := by
  have hne (sp : Byte) : a.toNat ≠ (stackAddr sp).toNat := Word.toNat_ne (ne_stackAddr_of_lt h sp)
  rw [entryMemory, Memory.read_write_ne _ _ _ _ (hne _), Memory.read_write_ne _ _ _ _ (hne _),
    Memory.read_write_ne _ _ _ _ (hne _)]
  rfl

/-- The entry through a vector above page one is that of the claims. -/
theorem interruptEntry_entered (s : State) {vec : Word} (b : Bool) (hlo : 0x01FF < vec.toNat)
    (hhi : 0x01FF < (vec + 1).toNat) : Entered s (interruptEntry s vec b) vec b s.pc := by
  simp only [Entered, BusEnds, slot_eq_stackAddr]
  have hpc : (interruptEntry s vec b).pc = (readWord (pushedFrame s b) vec (vec + 1)).1 := by rw [interruptEntry_eq]
  have hdevice : (interruptEntry s vec b).device = (readWord (pushedFrame s b) vec (vec + 1)).2.device := by
    rw [interruptEntry_eq]
  have hbus : (interruptEntry s vec b).bus = (readWord (pushedFrame s b) vec (vec + 1)).2.bus := by
    rw [interruptEntry_eq]
  refine ⟨(interruptEntry_state s vec b).trans (by rw [hpc]; rfl), ⟨hdevice, hbus, fun h => ?_⟩,
    interruptEntry_storedFrame s vec b, fun h => ?_⟩
  · rw [interruptEntry_ram h, entryMemory_read_of_lt s b hlo, entryMemory_read_of_lt s b hhi]
    exact ⟨rfl, rfl⟩
  · rw [interruptEntry_ram h, entryMemory_read_of_lt s b hlo, entryMemory_read_of_lt s b hhi]

theorem interruptEntry_nmi_entered (s : State) (b : Bool) : Entered s (interruptEntry s nmiVector b) 0xFFFA b s.pc :=
  interruptEntry_entered s b (by decide) (by decide)

theorem interruptEntry_irq_entered (s : State) (b : Bool) : Entered s (interruptEntry s irqVector b) 0xFFFE b s.pc :=
  interruptEntry_entered s b (by decide) (by decide)

/-- Settles O38: both vectors are above page one. -/
theorem interruptEntryFrame : Obligations.InterruptEntryFrame := fun s b =>
  ⟨interruptEntry_nmi_entered s b, interruptEntry_irq_entered s b⟩

/-- Settles O18: BRK is the entry through the IRQ vector from the PC past the padding byte. -/
theorem brkEntersThroughIrqVector : Obligations.BrkEntersThroughIrqVector :=
  ⟨opcode1_of_table rfl rfl, fun s => ⟨_, rfl, interruptEntry_irq_entered (s.setPC (s.pc + 1)) true⟩⟩

/-- Settles O37, by the cases of the sampling. -/
theorem interruptSamplingPriority : Obligations.InterruptSamplingPriority := by
  refine fun s => ⟨fun hn => ?_, fun hn hq hi => ?_, sampleInterrupts_of_noEntry⟩
  · refine ⟨_, interruptEntry_nmi_entered (s.setNmiPending false) false, ?_⟩
    rw [sampleInterrupts, if_pos hn]
    rfl
  · refine ⟨_, interruptEntry_irq_entered (s.setIrqPending false) false, ?_⟩
    simp only [sampleInterrupts, hn, hq, hi]
    rfl

/-! ## The return from an exception -/

/-- Over the default memory what was stored is held. -/
theorem byteAt_of_storedAt {s t : State} {a : Word} {v : Byte} (h : StoredAt s t a v) (hs : s.OnRam) :
    t.byteAt a = v := by
  rw [StoredAt, hs.substitutes a] at h
  exact h

/-- Over the default memory a return from an exception undoes the entry, whatever the vector (60_exceptions.md R281). -/
theorem returnFromInterrupt_interruptEntry {s : State} (h : s.OnRam) (vec : Word) (b : Bool) :
    let u := returnFromInterrupt (interruptEntry s vec b)
    u.pc = s.pc ∧ u.sp = s.sp ∧ u.p = s.p ∧ u.a = s.a ∧ u.x = s.x ∧ u.y = s.y := by
  obtain ⟨hhi, hlo, hp, -⟩ := interruptEntry_storedFrame s vec b
  simp only [slot_eq_stackAddr] at hhi hlo hp
  have hsp : (interruptEntry s vec b).sp = s.sp - 3 := by rw [interruptEntry_state]
  have e1 : s.sp - 3 + 1 = s.sp - 2 := by bv_omega
  have e2 : s.sp - 3 + 2 = s.sp - 1 := by bv_omega
  have e3 : s.sp - 3 + 3 = s.sp := by bv_omega
  have hram : (interruptEntry s vec b).OnRam := h
  rw [returnFromInterrupt_ram hram, hsp, e1, e2, e3, byteAt_of_storedAt hhi h, byteAt_of_storedAt hlo h,
    byteAt_of_storedAt hp h, mkWord_hi_lo, unpackP_packP]
  exact ⟨rfl, rfl, rfl, rfl, rfl, rfl⟩

/-- Settles O39: RTI is the return, and BRK an entry from the PC past its padding byte. -/
theorem rtiUndoesInterruptEntry : Obligations.RtiUndoesInterruptEntry := by
  refine ⟨fun s b vec h => ⟨_, rfl, returnFromInterrupt_interruptEntry h vec b⟩, fun s t h hbrk => ?_⟩
  obtain rfl := Host.Outcome.next.inj hbrk
  obtain ⟨hpc, hsp, hp, -⟩ := returnFromInterrupt_interruptEntry (s := s.setPC (s.pc + 1)) h irqVector true
  exact ⟨_, rfl, hpc, hsp, hp⟩

/-! ## The outputs of a step -/

@[simp] theorem load_cycles (s : State) (o : Source) : (load s o).state.cycles = s.cycles := by rw [load_state]
@[simp] theorem load_status (s : State) (o : Source) : (load s o).state.status = s.status := by rw [load_state]

/-- The `crossed` bit of a load in the claims' word for it. -/
@[simp] theorem load_crossed (s : State) (o : Source) : (load s o).crossed = operandCrossed s o := by
  cases o <;> rfl

/-- A branch adds the claims' cost of it (70_reset_and_hazards.md R319). -/
theorem branchIf_cycles (taken : Bool) (d : Byte) (s : State) :
    (branchIf taken d s).cycles = s.cycles + penalty.branchCost s taken d := by
  cases taken with
  | false => rfl
  | true =>
    rw [branchIf_eq, if_pos rfl, branchPenalty_eq]
    simp only [penalty.branchCost, if_true, ← branchTarget_toNat]
    norm_cast
    split <;> rfl

theorem branchIf_status (taken : Bool) (d : Byte) (s : State) : (branchIf taken d s).status = s.status := by
  rw [branchIf_state]

/-- Every instruction adds its penalty to the cycles, and from OK leaves the status that the claims give it. -/
theorem exec_outputs (i : Instr) {s : State} (hok : s.status = .ok) :
    ∃ t, exec i s = .next t ∧ t.cycles = s.cycles + penalty i s ∧ t.status = statusOf s.cfg.strictIllegal i := by
  cases i with
  | lda o | ldx o | ldy o | adc o | sbc o | cmp o | cpx o | cpy o | bit o =>
    exact ⟨_, rfl, by simp [penalty], by simp [statusOf, hok]⟩
  | and o | ora o | eor o => exact ⟨_, congrArg Host.Outcome.next (logicToA_eq_operand _ _ s), rfl, hok⟩
  | sta o | stx o | sty o => exact ⟨_, congrArg Host.Outcome.next (storeByte_state s _ _), rfl, hok⟩
  | inc o | dec o => exact ⟨_, congrArg Host.Outcome.next (modifyByte_state _ _ s), rfl, hok⟩
  | asl o | lsr o | rol o | ror o =>
    cases o with
    | acc => exact ⟨_, rfl, rfl, hok⟩
    | zp d | zpx d | abs w | abx w => exact ⟨_, congrArg Host.Outcome.next (shiftTarget_mem _ _ s), rfl, hok⟩
  | bcc d | bcs d | bne d | beq d | bpl d | bmi d | bvc d | bvs d =>
    exact ⟨_, rfl, branchIf_cycles _ d s, (branchIf_status _ d s).trans hok⟩
  | jmp o => exact ⟨_, rfl, by rw [locate_state]; rfl, by rw [locate_state]; exact hok⟩
  | undef b => exact ⟨_, execUndef_eq b s, rfl, by rw [hok]; rfl⟩
  | tax | tay | txa | tya | tsx | txs | pha | pla | php | plp | inx | dex | iny | dey | jsr w | rts | brk | rti
  | clc | sec | cld | sed | cli | sei | clv | nop =>
    exact ⟨_, rfl, rfl, hok⟩

/-- The penalty does not depend on the cycles counted so far. -/
theorem penalty_addCycles (i : Instr) (s : State) (n : Nat) : penalty i (s.addCycles n) = penalty i s := by
  have hcrossed (o : Source) : operandCrossed (s.addCycles n) o = operandCrossed s o := by
    cases o with
    | imm v => rfl
    | mem o => cases o <;> rfl
  cases i with
  | lda o | ldx o | ldy o | adc o | sbc o | cmp o | and o | ora o | eor o => exact congrArg Bool.toNat (hcrossed _)
  | _ => rfl

/-- The cycles and the status after the fetch and the instruction (R100, 70_reset_and_hazards.md R318). -/
theorem runInstr_outputs {e t : State} (hok : e.status = .ok) (h : runInstr e = .next t) :
    t.cycles = e.cycles + baseCycles (fetchInstr e).1 + penalty (fetchInstr e).1 (fetchInstr e).2 ∧
    t.status = statusOf e.cfg.strictIllegal (fetchInstr e).1 := by
  have hcycles : (fetchInstr e).2.cycles = e.cycles := by rw [fetchInstr_state]
  have hcfg : (fetchInstr e).2.cfg = e.cfg := by rw [fetchInstr_state]
  have hstatus : (fetchInstr e).2.status = .ok := by rw [fetchInstr_state, hok]
  obtain ⟨u, hu, huc, hus⟩ :=
    exec_outputs (fetchInstr e).1 (s := (fetchInstr e).2.addCycles (baseCycles (fetchInstr e).1)) hstatus
  obtain rfl : u = t := Host.Outcome.next.inj (hu.symm.trans h)
  rw [huc, hus, penalty_addCycles, State.addCycles_cycles, State.addCycles_cfg, hcycles, hcfg]
  exact ⟨rfl, rfl⟩

/-- Settles O41: a halt reports itself; else the sampling leaves OK, and only the instruction can change it. -/
theorem stepStatus : Obligations.StepStatus := by
  intro s t h
  rcases step_eq_next h with ⟨hh, rfl⟩ | ⟨hh, hrun⟩
  · rw [if_pos hh]
    rfl
  · obtain ⟨-, -, -, -, -, hcfg, hok⟩ := sampleInterrupts_fields s.clearOutputs
    obtain ⟨-, hstatus⟩ := runInstr_outputs hok hrun
    rw [if_neg (Bool.eq_false_iff.mp hh), hstatus, hcfg]
    rfl

/-- Settles O40: the step reports the halt over cleared outputs. -/
theorem haltedStepChangesNothing : Obligations.HaltedStepChangesNothing := fun _ hs hh => step_of_haltReq hs hh

/-! ## Requests and the snapshot -/

/-- Settles O49: in a started block each request is the update of its latch. -/
theorem requestsSetTheirLatch : Obligations.RequestsSetTheirLatch := fun _ hs => ⟨if_pos hs, if_pos hs⟩

/-- Settles O51: in a started block the snapshot has a value. -/
theorem snapshotShowsRegisterFile : Obligations.SnapshotShowsRegisterFile := fun _ hs => if_pos hs

end Sys2Proof.Machine

/-! The statements of 70_reset_and_hazards.md: the cycles of a step, the reset event, the placing of an instruction, and the
invariant at reset and after a step. -/

namespace Sys2Proof.Machine

open Sys2Proof Sys2Proof.Claims

/-! ## Cycles -/

/-- The sampling counts the cycles of an entry where it takes one (70_reset_and_hazards.md R318). -/
theorem sampleInterrupts_cycles (s : State) :
    (sampleInterrupts s).cycles =
      s.cycles + if s.nmiPending || (s.irqPending && !s.p.i) then s.cfg.intEntryCycles else 0 := by
  rcases sampleInterrupts_cases s with ⟨hn, e⟩ | ⟨hn, hq, hi, e⟩ | ⟨hn, hqi, e⟩ <;> rw [e]
  · rw [hn]
    rfl
  · rw [hn, hq, hi]
    rfl
  · rcases hqi with hq | hi
    · simp [hn, hq]
    · simp [hn, hi]

/-- Settles O42: the sum of what the sampling, the fetch and the instruction count. -/
theorem stepCycles : Obligations.StepCycles := by
  intro s t h
  rcases step_eq_next h with ⟨hh, rfl⟩ | ⟨hh, hrun⟩
  · rw [if_pos hh]
    rfl
  · obtain ⟨-, -, -, -, -, -, hok⟩ := sampleInterrupts_fields s.clearOutputs
    obtain ⟨hcycles, -⟩ := runInstr_outputs hok hrun
    rw [if_neg (Bool.eq_false_iff.mp hh), hcycles, sampleInterrupts_cycles]
    simp [State.clearOutputs]

/-! ## Reset -/

/-- Settles O46: the event is the check of the reset sequence's two reads, which the default memory lets through. -/
theorem resetSequenceValues : Obligations.ResetSequenceValues := by
  refine fun s => ⟨rfl, fun h => ?_⟩
  rw [applyEvent, resetEvent, failAtBus_of_none (resetSequence_noFailure h).2, resetSequence_ram h.1]

/-- Settles O47: the event from the constructed block is that over the default memory. -/
theorem stateAfterReset : Obligations.StateAfterReset :=
  ⟨rfl, rfl, rfl, rfl, rfl, rfl, rfl, rfl, (resetSequenceValues (State.constructed Config.default [])).2 ⟨rfl, rfl⟩⟩

/-! ## The invariant -/

/-- Settles O59: no cell is listed, and the status is OK. -/
theorem resetMeetsInvariant : Obligations.ResetMeetsInvariant := ⟨rfl, rfl, rfl⟩

/-- Settles O58: a step is an event, and every event that answers a next state keeps the invariant. -/
theorem stepKeepsInvariant : Obligations.StepKeepsInvariant := by
  intro s t hinv h
  rcases applyEvent_inv .step hinv with ⟨u, hu, huinv⟩ | ⟨a, ha⟩
  · obtain rfl : u = t := Host.Outcome.next.inj (hu.symm.trans h)
    exact huinv
  · cases ha.symm.trans h

/-! ## The placing of an instruction -/

/-- Three bytes put in at PC are the bytes at PC, also across the end of the address space. -/
theorem bytesAtPC_loadBytes (s : State) (b0 b1 b2 : Byte) :
    bytesAtPC (s.loadBytes s.pc [b0, b1, b2]) = [b0, b1, b2] := by
  have h01 : s.pc.toNat ≠ (s.pc + 1).toNat := Word.toNat_ne (by bv_omega)
  have h02 : s.pc.toNat ≠ (s.pc + 1 + 1).toNat := Word.toNat_ne (by bv_omega)
  have h12 : (s.pc + 1).toNat ≠ (s.pc + 1 + 1).toNat := Word.toNat_ne (by bv_omega)
  have e : s.pc + 2 = s.pc + 1 + 1 := by bv_omega
  simp only [bytesAtPC, State.byteAt, State.loadBytes, e]
  rw [Memory.read_write_ne _ _ _ _ h02, Memory.read_write_ne _ _ _ _ h01, Memory.read_write_same,
    Memory.read_write_ne _ _ _ _ h12, Memory.read_write_same, Memory.read_write_same]

/-- What decodes a table word decodes the bytes that it is placed as. -/
theorem decode_of_decodeTableWord {nbits w : Nat} {i : Instr} (h : decodeTableWord nbits w = some i) :
    ∃ rest, decode (tableBytes nbits w) = .ok (i, rest) := by
  unfold decodeTableWord at h
  split at h
  · next j rest hd => exact ⟨rest, by rw [hd, Option.some.inj h]⟩
  · cases h

/-- Settles O52: the placed bytes are the bytes at PC, and a step that takes no interrupt runs what they decode to. -/
theorem placedInstructionRunsNext : Obligations.PlacedInstructionRunsNext := by
  intro s nbits w i h
  obtain ⟨rest, hd⟩ := decode_of_decodeTableWord h
  have hno : NoEntry (s.withFetchWord nbits w) := by
    refine ⟨rfl, ?_⟩
    change (s.irqPending && s.p.i) = false ∨ s.p.i = true
    cases s.p.i <;> simp
  have hbytes : bytesAtPC (s.withFetchWord nbits w) = tableBytes nbits w := bytesAtPC_loadBytes s.readyToFetch _ _ _
  obtain ⟨-, -, hrun⟩ := stepRunsTheDecodedInstruction (s.withFetchWord nbits w) i rest rfl rfl
  exact hrun ⟨rfl, rfl⟩ hno (hbytes ▸ hd)

end Sys2Proof.Machine
